-- ==== Sys2Proof/Word.lean ====
section
/-! DEFINITION. The block's data words: a byte of an operation word, a digit code and a time value
(spec/30_encoding.md R71, R72; spec/10_state.md R22). -/

namespace Sys2Proof

/-- One byte of an operation word (the model's own layout, log 8). -/
abbrev Byte := BitVec 8

/-- A digit code, format `DIGIT` (R71): 0 to 9 are legal, 10 to 15 are representable. -/
abbrev Digit := BitVec 4

/-- A time value (R22): four digit codes, `d0` the least significant (ones), `d3` the most (R53). -/
structure TimeValue where
  d0 : Digit
  d1 : Digit
  d2 : Digit
  d3 : Digit
  deriving DecidableEq, Repr, Inhabited

end Sys2Proof
end

