-- ==== Sys2Proof/Config.lean ====
section
/-! DEFINITION. The build-time parameters of spec/00_scope.md R6, the levels at the input ports
(spec/10_state.md R20), and the values the spec leaves free. -/

namespace Sys2Proof

/-- `CODEC_GLYPHS` (spec/40_digit_codec.md R103). -/
inductive Glyphs where
  | std
  | alt6
  | alt7
  | alt9
  deriving DecidableEq, Repr

/-- `ILLEGAL_DIGIT` (spec/43_bcd_counter.md R176). -/
inductive IllegalDigit where
  | draw
  | literal
  deriving DecidableEq, Repr

/-- The `OPEN` parameters of R6. They are plain data in State, fixed for a machine: every statement
about every state is a statement about every configuration (log 1). -/
structure Config where
  dwellMs : Nat
  dwellCycles : Nat
  glyphs : Glyphs
  illegalDigit : IllegalDigit
  segActiveLow : Bool
  digActiveLow : Bool
  relayActiveLow : Bool
  deriving DecidableEq, Repr

/-- The levels at the input ports `rst`, `btn_n` and `init_timeout` (R20). -/
structure Ports where
  rst : Bool
  btnN : BitVec 4
  initTimeout : BitVec 16
  deriving DecidableEq, Repr, Inhabited

/-- FREE VALUE (log 11). The digits drawn under `ILLEGAL_DIGIT = DRAW`, "any 4-bit values" (R176), one
time value for each draw. -/
opaque Config.freeDigits : Nat → TimeValue

/-- FREE VALUE (log 3). The port levels of a step for which State's script says nothing: "`any value`:
one free 4-bit vector per pass" (spec/93_implementation_defined.md I11), and likewise `rst` and
`init_timeout`. -/
opaque Config.freePorts : Nat → Ports

end Sys2Proof
end

