-- ==== Sys2Proof/Syntax.lean ====
section
/-! DEFINITION. The operations of the block: one constructor for each row of spec/opcode_table.json.
An operand of a constructor is a bit of the row's vector that the row leaves open, the button a
debouncer row belongs to (spec/42_debouncer.md R150), or the time value a BCD function is given. -/

namespace Sys2Proof

/-- The four buttons, in the order of the polls (spec/30_encoding.md R75). -/
inductive Button where
  | inc
  | dec
  | save
  | ss
  deriving DecidableEq, Repr, Inhabited

inductive Instr where
  -- format DIGIT, spec/40_digit_codec.md R101, R102
  | enc0
  | enc1
  | enc2
  | enc3
  | enc4
  | enc5
  | enc6
  | enc7
  | enc8
  | enc9
  | encBlankAB (d : Digit)
  | encBlankCF (d : Digit)
  -- format PH3, spec/41_display_multiplexer.md R122, R127, spec/45_pass_sequencer.md R231
  | slot0
  | slot1
  | slot2
  | slot3
  | update
  | phIllegal5
  | phIllegal67 (ph : BitVec 3)
  -- format POLL3, spec/42_debouncer.md R151, R153
  | pollFire (k : Button)
  | pollSuppress (k : Button)
  | pollIdle (k : Button) (latch : Bool)
  | pollDisallowed (k : Button) (pressed : Bool) (latch : Bool)
  -- format FIRE, spec/45_pass_sequencer.md R233 to R235
  | actInc
  | actDec
  | actSave
  -- format SS3, spec/44_countdown_fsm.md R200 to R203
  | start
  | startRefused
  | stop (zT : Bool)
  | ssNone (active : Bool) (zT : Bool)
  -- format TICK3, spec/44_countdown_fsm.md R204, R205
  | tickContinue
  | tickAutostop
  | tickWait (zL : Bool)
  | tickIdle (ge : Bool) (zL : Bool)
  -- format ACC1, spec/41_display_multiplexer.md R125
  | accrue
  | noAccrue
  -- format REL2, spec/45_pass_sequencer.md R238
  | relayOn
  | relayOff
  | relayHold0
  | relayHold1
  -- format RST1, spec/70_reset_and_hazards.md R280
  | reset
  -- format BCD_FN, spec/43_bcd_counter.md R171 to R173
  | bcdInc (x : TimeValue)
  | bcdDec (x : TimeValue)
  | bcdIsZero (x : TimeValue)
  deriving DecidableEq, Repr

end Sys2Proof
end

