-- ==== Sys2Proof/WellFormed.lean ====
section
/-! DEFINITION. Which terms of Instr stand for a vector of the table. Three rows keep the code they
match as an operand, and only the codes of the row's mask are theirs (spec/opcode_table.json rows
ENC_BLANK_A_B, ENC_BLANK_C_F and PH_ILLEGAL_6_7; spec/30_encoding.md R82). Every other operand is a bit
the row leaves open, or a whole time value, so every value of it is the row's. -/

namespace Sys2Proof

/-- The operands of `i` are ones its row of the table admits. -/
def Instr.wellFormed (i : Instr) : Bool :=
  match i with
  | .enc0 => true
  | .enc1 => true
  | .enc2 => true
  | .enc3 => true
  | .enc4 => true
  | .enc5 => true
  | .enc6 => true
  | .enc7 => true
  | .enc8 => true
  | .enc9 => true
  | .encBlankAB d => decide (d = 10 ∨ d = 11)
  | .encBlankCF d => decide (12 ≤ d.toNat)
  | .slot0 => true
  | .slot1 => true
  | .slot2 => true
  | .slot3 => true
  | .update => true
  | .phIllegal5 => true
  | .phIllegal67 ph => decide (6 ≤ ph.toNat)
  | .pollFire _ => true
  | .pollSuppress _ => true
  | .pollIdle _ _ => true
  | .pollDisallowed _ _ _ => true
  | .actInc => true
  | .actDec => true
  | .actSave => true
  | .start => true
  | .startRefused => true
  | .stop _ => true
  | .ssNone _ _ => true
  | .tickContinue => true
  | .tickAutostop => true
  | .tickWait _ => true
  | .tickIdle _ _ => true
  | .accrue => true
  | .noAccrue => true
  | .relayOn => true
  | .relayOff => true
  | .relayHold0 => true
  | .relayHold1 => true
  | .reset => true
  | .bcdInc _ => true
  | .bcdDec _ => true
  | .bcdIsZero _ => true

end Sys2Proof
end

