-- ==== Sys2Proof/Decode.lean ====
section
/-! DEFINITION. Decoding: the tables of spec/30_encoding.md R71 to R82, one function a format, each
total; the operation word that names the format; and the encoder.

The table's formats share bit patterns: a vector alone (say `000`) does not say whether it is a phase
code, a poll, a dispatch or a tick. In the block the SITE says so: the phase register is decoded as PH3,
the dispatch's vector as SS3. An operation word therefore is two bytes: the vector, numbered as the
table numbers it, and a tag that names the site (DESIGN CHOICE, log 8). BCD rows carry their time value
in two further bytes, low byte first (log 8). -/

namespace Sys2Proof

/-- Bit `k` of the 4-bit button vectors (R75): INC 0, DEC 1, SAVE 2, SS 3. -/
def Button.index (k : Button) : Nat :=
  match k with
  | .inc => 0
  | .dec => 1
  | .save => 2
  | .ss => 3

/-- The button whose bit is `n` (R75). -/
def buttonOf (n : BitVec 2) : Button :=
  match n.toNat with
  | 0 => .inc
  | 1 => .dec
  | 2 => .save
  | _ => .ss

/-- A 2-bit vector from its bits, the upper one first. -/
def vec2 (b1 b0 : Bool) : BitVec 2 := BitVec.ofBool b1 ++ BitVec.ofBool b0

/-- A 3-bit vector from its bits, the upper one first (R78, R79, R80). -/
def vec3 (b2 b1 b0 : Bool) : BitVec 3 := BitVec.ofBool b2 ++ (BitVec.ofBool b1 ++ BitVec.ofBool b0)

/-- `pack` of R72: digit `i` at bits `[4i+3:4i]`. -/
def pack (x : TimeValue) : BitVec 16 := x.d3 ++ (x.d2 ++ (x.d1 ++ x.d0))

/-- `unpack` of R72. -/
def unpack (tv : BitVec 16) : TimeValue where
  d0 := tv.extractLsb' 0 4
  d1 := tv.extractLsb' 4 4
  d2 := tv.extractLsb' 8 4
  d3 := tv.extractLsb' 12 4

/-- Format DIGIT (R71, R101, R102). -/
def decodeDigit (d : Digit) : Instr :=
  match d.toNat with
  | 0 => .enc0
  | 1 => .enc1
  | 2 => .enc2
  | 3 => .enc3
  | 4 => .enc4
  | 5 => .enc5
  | 6 => .enc6
  | 7 => .enc7
  | 8 => .enc8
  | 9 => .enc9
  | 10 => .encBlankAB d
  | 11 => .encBlankAB d
  | _ => .encBlankCF d

/-- Format PH3 (R76). -/
def decodePhase (ph : BitVec 3) : Instr :=
  match ph.toNat with
  | 0 => .slot0
  | 1 => .slot1
  | 2 => .slot2
  | 3 => .slot3
  | 4 => .update
  | 5 => .phIllegal5
  | _ => .phIllegal67 ph

/-- Format POLL3 (R78): `allowed` bit 2, `pressed` bit 1, `latch` bit 0. -/
def decodePoll (k : Button) (v : BitVec 3) : Instr :=
  match v.getLsbD 2, v.getLsbD 1, v.getLsbD 0 with
  | true, true, true => .pollFire k
  | true, true, false => .pollSuppress k
  | true, false, latch => .pollIdle k latch
  | false, pressed, latch => .pollDisallowed k pressed latch

/-- Format FIRE (spec/30_encoding.md section 8): a set bit selects the button's action. A clear bit
selects no row, and SS has no action of its own (spec/45_pass_sequencer.md R236). -/
def decodeFire (k : Button) (f : Bool) : Option Instr :=
  match f, k with
  | true, .inc => some .actInc
  | true, .dec => some .actDec
  | true, .save => some .actSave
  | true, .ss => none
  | false, _ => none

/-- Format SS3 (R79): `fire[3]` bit 2, `active` bit 1, `zT` bit 0. -/
def decodeSs (v : BitVec 3) : Instr :=
  match v.getLsbD 2, v.getLsbD 1, v.getLsbD 0 with
  | true, false, false => .start
  | true, false, true => .startRefused
  | true, true, zT => .stop zT
  | false, active, zT => .ssNone active zT

/-- Format TICK3 (R80): `active` bit 2, `ge` bit 1, `zL'` bit 0. -/
def decodeTick (v : BitVec 3) : Instr :=
  match v.getLsbD 2, v.getLsbD 1, v.getLsbD 0 with
  | true, true, false => .tickContinue
  | true, true, true => .tickAutostop
  | true, false, zL => .tickWait zL
  | false, ge, zL => .tickIdle ge zL

/-- Format ACC1 (R81). -/
def decodeAccrual (active : Bool) : Instr :=
  match active with
  | true => .accrue
  | false => .noAccrue

/-- Format REL2 (R81): `a0` bit 1, `active` bit 0. -/
def decodeRelay (v : BitVec 2) : Instr :=
  match v.getLsbD 1, v.getLsbD 0 with
  | false, true => .relayOn
  | true, false => .relayOff
  | false, false => .relayHold0
  | true, true => .relayHold1

/-- The sites of the block at which a vector is decoded, one a format (spec/30_encoding.md section 8). -/
inductive Site where
  | untagged
  | digit
  | phase
  | poll (k : Button)
  | fire (k : Button)
  | dispatch
  | tick
  | accrual
  | relay
  | rst
  | bcdInc
  | bcdDec
  | bcdIsZero
  deriving DecidableEq, Repr

/-- Why a byte list is no operation word. -/
inductive Reject where
  /-- the list ends inside a word -/
  | truncated
  /-- the tag byte names no site -/
  | unknownSite
  /-- the vector byte has a bit above its format's width -/
  | vectorTooWide
  /-- the vector is one the table gives no row: FIRE 0, RST1 0, the FIRE bit of SS -/
  | noRow
  deriving DecidableEq, Repr

/-- The tag byte of a site (log 8). -/
def Site.tag (site : Site) : Byte :=
  match site with
  | .untagged => 0x00
  | .digit => 0x01
  | .phase => 0x02
  | .dispatch => 0x03
  | .tick => 0x04
  | .accrual => 0x05
  | .relay => 0x06
  | .rst => 0x07
  | .bcdInc => 0x08
  | .bcdDec => 0x09
  | .bcdIsZero => 0x0A
  | .poll k => 0x10 + BitVec.ofNat 8 k.index
  | .fire k => 0x20 + BitVec.ofNat 8 k.index

/-- The site a tag byte names. -/
def siteOf (tag : Byte) : Option Site :=
  match tag.toNat with
  | 0x00 => some .untagged
  | 0x01 => some .digit
  | 0x02 => some .phase
  | 0x03 => some .dispatch
  | 0x04 => some .tick
  | 0x05 => some .accrual
  | 0x06 => some .relay
  | 0x07 => some .rst
  | 0x08 => some .bcdInc
  | 0x09 => some .bcdDec
  | 0x0A => some .bcdIsZero
  | 0x10 => some (.poll .inc)
  | 0x11 => some (.poll .dec)
  | 0x12 => some (.poll .save)
  | 0x13 => some (.poll .ss)
  | 0x20 => some (.fire .inc)
  | 0x21 => some (.fire .dec)
  | 0x22 => some (.fire .save)
  | 0x23 => some (.fire .ss)
  | _ => none

/-- The low `w` bits of a vector byte, if no higher bit is set. -/
def narrow (w : Nat) (v : Byte) : Except Reject (BitVec w) :=
  if v.toNat < 2 ^ w then .ok (v.setWidth w) else .error .vectorTooWide

/-- The vector byte at a site other than the BCD functions'. An untagged byte carries no format: below 8
it is read as the phase register's code, the one vector the block decodes at its top level; 8 to 15 needs
four bits, and DIGIT is the one format that has them (log 8). -/
def decodeVector (site : Site) (v : Byte) : Except Reject Instr :=
  match site with
  | .untagged => (narrow 4 v).map fun d => if d.toNat < 8 then decodePhase (d.setWidth 3) else decodeDigit d
  | .digit => (narrow 4 v).map decodeDigit
  | .phase => (narrow 3 v).map decodePhase
  | .poll k => (narrow 3 v).map (decodePoll k)
  | .fire k =>
    match narrow 1 v with
    | .error e => .error e
    | .ok f =>
      match decodeFire k (f.getLsbD 0) with
      | some i => .ok i
      | none => .error .noRow
  | .dispatch => (narrow 3 v).map decodeSs
  | .tick => (narrow 3 v).map decodeTick
  | .accrual => (narrow 1 v).map fun a => decodeAccrual (a.getLsbD 0)
  | .relay => (narrow 2 v).map decodeRelay
  | .rst =>
    match narrow 1 v with
    | .error e => .error e
    | .ok r => if r.getLsbD 0 then .ok .reset else .error .noRow
  | .bcdInc => .error .truncated
  | .bcdDec => .error .truncated
  | .bcdIsZero => .error .truncated

/-- A BCD row's word: its vector byte has no select bits and is zero (`mask` 0 in the table), and the
time value follows, low byte first. -/
def decodeBcd (mk : TimeValue → Instr) (v : Byte) (bs : List Byte) : Except Reject (Instr × List Byte) :=
  if v ≠ 0 then .error .vectorTooWide
  else
    match bs with
    | lo :: hi :: rest => .ok (mk (unpack (hi ++ lo)), rest)
    | _ => .error .truncated

/-- The operation at the head of a byte list, and the bytes after it. -/
def decode (bs : List Byte) : Except Reject (Instr × List Byte) :=
  match bs with
  | v :: tag :: rest =>
    match siteOf tag with
    | none => .error .unknownSite
    | some .bcdInc => decodeBcd .bcdInc v rest
    | some .bcdDec => decodeBcd .bcdDec v rest
    | some .bcdIsZero => decodeBcd .bcdIsZero v rest
    | some site => (decodeVector site v).map fun i => (i, rest)
  | _ => .error .truncated

/-- A tagged word without operand bytes. -/
def word (site : Site) (v : Nat) : List Byte := [BitVec.ofNat 8 v, site.tag]

/-- A BCD row's word. -/
def bcdWord (site : Site) (x : TimeValue) : List Byte :=
  [0, site.tag, (pack x).setWidth 8, (pack x).extractLsb' 8 8]

/-- The words of an operation, from the tables of R71, R76 and R78 to R81. -/
def encode (i : Instr) : List Byte :=
  match i with
  | .enc0 => word .digit 0
  | .enc1 => word .digit 1
  | .enc2 => word .digit 2
  | .enc3 => word .digit 3
  | .enc4 => word .digit 4
  | .enc5 => word .digit 5
  | .enc6 => word .digit 6
  | .enc7 => word .digit 7
  | .enc8 => word .digit 8
  | .enc9 => word .digit 9
  | .encBlankAB d => word .digit d.toNat
  | .encBlankCF d => word .digit d.toNat
  | .slot0 => word .phase 0b000
  | .slot1 => word .phase 0b001
  | .slot2 => word .phase 0b010
  | .slot3 => word .phase 0b011
  | .update => word .phase 0b100
  | .phIllegal5 => word .phase 0b101
  | .phIllegal67 ph => word .phase ph.toNat
  | .pollFire k => word (.poll k) 0b111
  | .pollSuppress k => word (.poll k) 0b110
  | .pollIdle k latch => word (.poll k) (vec3 true false latch).toNat
  | .pollDisallowed k pressed latch => word (.poll k) (vec3 false pressed latch).toNat
  | .actInc => word (.fire .inc) 1
  | .actDec => word (.fire .dec) 1
  | .actSave => word (.fire .save) 1
  | .start => word .dispatch 0b100
  | .startRefused => word .dispatch 0b101
  | .stop zT => word .dispatch (vec3 true true zT).toNat
  | .ssNone active zT => word .dispatch (vec3 false active zT).toNat
  | .tickContinue => word .tick 0b110
  | .tickAutostop => word .tick 0b111
  | .tickWait zL => word .tick (vec3 true false zL).toNat
  | .tickIdle ge zL => word .tick (vec3 false ge zL).toNat
  | .accrue => word .accrual 1
  | .noAccrue => word .accrual 0
  | .relayOn => word .relay 0b01
  | .relayOff => word .relay 0b10
  | .relayHold0 => word .relay 0b00
  | .relayHold1 => word .relay 0b11
  | .reset => word .rst 1
  | .bcdInc x => bcdWord .bcdInc x
  | .bcdDec x => bcdWord .bcdDec x
  | .bcdIsZero x => bcdWord .bcdIsZero x

/-- Whether a word's tag byte names its site (the encoder's words all do). -/
def tagged (bs : List Byte) : Bool :=
  match bs with
  | _ :: tag :: _ => decide (tag ≠ 0)
  | _ => false

/-- The four bytes of an operation word whose bits are `w`, the bits from `nbits` up being zero, the
vector byte first. -/
def tableBytes (nbits w : Nat) : List Byte :=
  let v := w % 2 ^ nbits
  [BitVec.ofNat 8 v, BitVec.ofNat 8 (v / 2 ^ 8), BitVec.ofNat 8 (v / 2 ^ 16), BitVec.ofNat 8 (v / 2 ^ 24)]

/-- What the decoder reads from an operation word whose bits are `w` (see log 8 for a word as short as
the table's rows, which has no tag). -/
def decodeTableWord (nbits w : Nat) : Option Instr :=
  match decode (tableBytes nbits w) with
  | .ok (i, _) => some i
  | .error _ => none

end Sys2Proof
end

