-- ==== Sys2Proof/Machine/State.lean ====
section
/-! DEFINITION. The state of the block: every register of spec/10_state.md R41, the output lines and
combinational signals of R28 and R33, the configuration of spec/00_scope.md R6, and the environment's
levels at the input ports (R20). -/

namespace Sys2Proof.Machine

/-- The block has no fault: "The block raises no exception, has no trap and has no fault state"
(spec/60_exceptions.md R260). So no constructor: nothing raises one. -/
inductive Fault where
  deriving DecidableEq, Repr

/-- Why a step answers no state. -/
inductive Refusal where
  /-- Raised by an arm of `exec` for a row that has no meaning yet; no arm is left so. Safe. -/
  | notModelled (mnemonic : String)
  /-- Raised by `step` and `clock` for a configuration outside R6: "Refuse the configuration when
  `DWELL_MS` is outside 1 to 250 or `DWELL_CYCLES < 1`" (R263). Safe. -/
  | configuration
  deriving DecidableEq, Repr

/-- The two-flip-flop synchronizer on `btn_n` (spec/42_debouncer.md R156). `stage2` is the sample. -/
structure SyncStages where
  stage1 : BitVec 4
  stage2 : BitVec 4
  deriving DecidableEq, Repr

structure State where
  /-- the build-time parameters (R6); no step writes them -/
  cfg : Config
  /-- the levels at the input ports during the coming step (R20, log 3) -/
  ports : Ports
  /-- the port levels of the steps after it (log 3) -/
  script : List Ports
  /-- how many free port levels were drawn after the script's end (log 3) -/
  portDraws : Nat
  /-- how many free digit values were drawn (R176, log 11) -/
  draws : Nat
  /-- `T`, the configured timeout (R23) -/
  t : TimeValue
  /-- `L`, the live countdown (R24) -/
  l : TimeValue
  /-- `acc`, the elapsed-ms accumulator (R32) -/
  acc : BitVec 16
  /-- `active`, the countdown-active flag (R29) -/
  active : Bool
  /-- `rel[3:0]`, the debounce latches (R30) -/
  rel : BitVec 4
  /-- `ph`, the phase register (R26) -/
  ph : BitVec 3
  /-- `dwt`, the dwell timer (R27) -/
  dwt : Nat
  /-- `relay_r` (R33) -/
  relay : Bool
  /-- `save_stb_r` (R33) -/
  saveStb : Bool
  /-- `save_data_r` (R33) -/
  saveData : BitVec 16
  /-- `btn_sync` (R34) -/
  btnSync : SyncStages
  /-- the level of `seg` during the phase last executed (R21, R122, log 6) -/
  seg : BitVec 7
  /-- the level of `dig_en` during the phase last executed (R21, R122, log 6) -/
  digEn : BitVec 4
  /-- the signals `fire[k]` of the polls last made (R28, log 7) -/
  fire : BitVec 4
  /-- the entry flag of the `UPD` last entered (R28, R232, log 7) -/
  a0 : Bool
  /-- the result of the BCD_INC or BCD_DEC last evaluated (log 7) -/
  bcdOut : TimeValue
  /-- the result of the BCD_ISZERO last evaluated (log 7) -/
  bcdZero : Bool
  deriving DecidableEq, Repr

/-- The time value `0x0000`. -/
def zeroTime : TimeValue := ⟨0, 0, 0, 0⟩

/-- The state after a reset edge that saw the port levels `p`: the table of R41, `T` from
`init_timeout`, the synchronizer `11` per bit. The combinational signals have no reset value (R28) and
are named 0 here (log 7); the model's own counters start at 0. -/
def State.afterReset (cfg : Config) (p : Ports) : State where
  cfg := cfg
  ports := p
  script := []
  portDraws := 0
  draws := 0
  t := unpack p.initTimeout
  l := zeroTime
  acc := 0
  active := false
  rel := 0b1111
  ph := 0b000
  dwt := 0
  relay := false
  saveStb := false
  saveData := 0x0000
  btnSync := ⟨0b1111, 0b1111⟩
  seg := 0
  digEn := 0
  fire := 0
  a0 := false
  bcdOut := zeroTime
  bcdZero := false

/-- The setting of the `OPEN` parameters that `State.reset` names (DESIGN CHOICE, log 1). `STD` and
`DRAW` are the spec's defaults (R6); no statement rests on the others. -/
def resetConfig : Config where
  dwellMs := 250
  dwellCycles := 2
  glyphs := .std
  illegalDigit := .draw
  segActiveLow := false
  digActiveLow := false
  relayActiveLow := false

/-- The port levels in the first cycle after reset that `State.reset` names (DESIGN CHOICE, logs 2, 3):
`rst` released, no button pressed, `init_timeout = 0x0020` as in the vector V-RS1. -/
def resetPorts : Ports := ⟨false, 0b1111, 0x0020⟩

/-- The block right after reset (spec/70_reset_and_hazards.md R280, R281). -/
def State.reset : State := State.afterReset resetConfig resetPorts

end Sys2Proof.Machine
end

