-- ==== Sys2Proof/Machine/Operands.lean ====
section
/-! DEFINITION. Operand assembly: bits of the button vectors, the digit a slot shows, and the two
operands of a debouncer step (spec/30_encoding.md R75, R77; spec/42_debouncer.md R154). -/

namespace Sys2Proof.Machine

/-- Bit `k` of a 4-bit button vector. -/
def getBit (v : BitVec 4) (k : Button) : Bool := v.getLsbD k.index

/-- A 4-bit button vector with bit `k` replaced. -/
def setBit (v : BitVec 4) (k : Button) (b : Bool) : BitVec 4 :=
  if b then v ||| (1#4 <<< k.index) else v &&& ~~~(1#4 <<< k.index)

/-- `pressed[k] = (btn_n[k] == 0)` (R75). -/
def pressed (b : BitVec 4) (k : Button) : Bool := !getBit b k

/-- `allowed_k` (R154): INC, DEC and SAVE while Inactive, SS always. -/
def allowed (s : State) (k : Button) : Bool :=
  match k with
  | .inc => !s.active
  | .dec => !s.active
  | .save => !s.active
  | .ss => true

/-- `X[i]`, digit `i` of a time value (R22, R53). -/
def digitOf (x : TimeValue) (i : Fin 4) : Digit :=
  match i with
  | 0 => x.d0
  | 1 => x.d1
  | 2 => x.d2
  | 3 => x.d3

/-- `src`: the live countdown while Active, the configured timeout while Inactive
(spec/41_display_multiplexer.md R121). -/
def source (s : State) : TimeValue := if s.active then s.l else s.t

/-- The digit shown in slot `i`: `src[3-i]` (R77). -/
def shownDigit (s : State) (i : Fin 4) : Digit :=
  match i with
  | 0 => digitOf (source s) 3
  | 1 => digitOf (source s) 2
  | 2 => digitOf (source s) 1
  | 3 => digitOf (source s) 0

/-- `onehot4(i)` (R74). -/
def onehot4 (i : Fin 4) : BitVec 4 := 1#4 <<< i.val

/-- The slot a phase code names, if it is one (R76). -/
def slotOf (ph : BitVec 3) : Option (Fin 4) :=
  match ph.toNat with
  | 0 => some 0
  | 1 => some 1
  | 2 => some 2
  | 3 => some 3
  | _ => none

/-- The phase code that follows slot `i` (spec/41_display_multiplexer.md R126). -/
def phaseAfterSlot (i : Fin 4) : BitVec 3 :=
  match i with
  | 0 => 0b001
  | 1 => 0b010
  | 2 => 0b011
  | 3 => 0b100

end Sys2Proof.Machine
end

