-- ==== Sys2Proof/Machine/Flags.lean ====
section
/-! DEFINITION. The combinational functions: the digit codec (spec/40_digit_codec.md R100 to R103), the
BCD counter (spec/43_bcd_counter.md R170 to R176), the debouncer step (spec/42_debouncer.md R151), the
signals of spec/10_state.md R28, and the control vectors of spec/30_encoding.md R78 to R81. -/

namespace Sys2Proof.Machine

/-- ENCODE (R100): the table of R101 with the glyphs of R103 for 6, 7 and 9, and blank for the codes 10 to
15 (R102). Bit order `g f e d c b a` (R73). -/
def codec (g : Glyphs) (d : Digit) : BitVec 7 :=
  match d.toNat with
  | 0 => 0x3F
  | 1 => 0x06
  | 2 => 0x5B
  | 3 => 0x4F
  | 4 => 0x66
  | 5 => 0x6D
  | 6 => if g = .alt6 then 0x7C else 0x7D
  | 7 => if g = .alt7 then 0x27 else 0x07
  | 8 => 0x7F
  | 9 => if g = .alt9 then 0x67 else 0x6F
  | _ => 0x00

/-- What a carry or borrow does at one digit. -/
inductive DigitStep where
  /-- the digit rolls and the chain goes on -/
  | carry (d : Digit)
  /-- the digit takes its new value and the chain stops -/
  | stop (d : Digit)
  /-- the digit's code is 10 to 15: `ILLEGAL_DIGIT` decides (R176) -/
  | illegal
  deriving DecidableEq, Repr

/-- INC at one digit (R171). -/
def incDigit (d : Digit) : DigitStep :=
  if d.toNat = 9 then .carry 0 else if d.toNat < 9 then .stop (d + 1) else .illegal

/-- DEC at one digit (R172). -/
def decDigit (d : Digit) : DigitStep :=
  if d.toNat = 0 then .carry 9 else if d.toNat ≤ 9 then .stop (d - 1) else .illegal

/-- The carry or borrow chain over the digits from the least significant up, each digit paired with the
free digit of its place. Digits the chain does not reach are copied. At a code 10 to 15, `LITERAL` takes
`literal d` and stops; `DRAW` makes that digit and every digit above it free (R176). What leaves digit 3
is discarded (R171, R172). -/
def chain (f : Digit → DigitStep) (literal : Digit → Digit) (mode : IllegalDigit) :
    List (Digit × Digit) → List Digit
  | [] => []
  | (d, free) :: rest =>
    match f d with
    | .carry d' => d' :: chain f literal mode rest
    | .stop d' => d' :: rest.map Prod.fst
    | .illegal =>
      match mode with
      | .literal => literal d :: rest.map Prod.fst
      | .draw => free :: rest.map Prod.snd

/-- Whether the chain reaches a code 10 to 15. -/
def chainReachesIllegal (f : Digit → DigitStep) : List Digit → Bool
  | [] => false
  | d :: rest =>
    match f d with
    | .carry _ => chainReachesIllegal f rest
    | .stop _ => false
    | .illegal => true

/-- The digits of a time value, index 0 first. -/
def digits (x : TimeValue) : List Digit := [x.d0, x.d1, x.d2, x.d3]

/-- The time value of a list of digits, index 0 first. -/
def ofDigits (ds : List Digit) : TimeValue := ⟨ds.getD 0 0, ds.getD 1 0, ds.getD 2 0, ds.getD 3 0⟩

/-- INC (R171, R176); `free` supplies the free digits of a draw. -/
def incTime (mode : IllegalDigit) (free x : TimeValue) : TimeValue :=
  ofDigits (chain incDigit (fun d => d + 1) mode ((digits x).zip (digits free)))

/-- DEC (R172, R176). -/
def decTime (mode : IllegalDigit) (free x : TimeValue) : TimeValue :=
  ofDigits (chain decDigit (fun d => d - 1) mode ((digits x).zip (digits free)))

/-- ISZERO (R173): exact for every code. -/
def isZero (x : TimeValue) : Bool :=
  decide (x.d0 = 0) && decide (x.d1 = 0) && decide (x.d2 = 0) && decide (x.d3 = 0)

/-- Every digit code is 0 to 9 (R22, R40). -/
def legalTime (x : TimeValue) : Bool :=
  decide (x.d0.toNat ≤ 9) && decide (x.d1.toNat ≤ 9) && decide (x.d2.toNat ≤ 9) && decide (x.d3.toNat ≤ 9)

/-- `val(X)` (R170). -/
def timeVal (x : TimeValue) : Nat := x.d0.toNat + 10 * x.d1.toNat + 100 * x.d2.toNat + 1000 * x.d3.toNat

/-- `INC(X)` in state `s`: the configured treatment of illegal digits and the state's next draw. -/
def incIn (s : State) (x : TimeValue) : TimeValue :=
  incTime s.cfg.illegalDigit (Config.freeDigits s.draws) x

/-- `DEC(X)` in state `s`. -/
def decIn (s : State) (x : TimeValue) : TimeValue :=
  decTime s.cfg.illegalDigit (Config.freeDigits s.draws) x

/-- Whether a chain over `x` takes a free value in state `s`. -/
def takesDraw (f : Digit → DigitStep) (s : State) (x : TimeValue) : Bool :=
  decide (s.cfg.illegalDigit = .draw) && chainReachesIllegal f (digits x)

/-- POLL (R151): `(fire, latch')` from `allowed`, `pressed` and `latch`. -/
def poll (allowed pressed latch : Bool) : Bool × Bool :=
  if !allowed then (false, true)
  else if pressed && latch then (true, false)
  else if pressed && !latch then (false, false)
  else (false, true)

/-- The fires of an allowed button over consecutive samples, from a latch (R157). -/
def pollRun (latch : Bool) : List Bool → List Bool
  | [] => []
  | p :: ps => (poll true p latch).1 :: pollRun (poll true p latch).2 ps

/-- `ge = (acc >= 1000)` (R28). -/
def ge (s : State) : Bool := decide (1000 ≤ s.acc.toNat)

/-- `zT = ISZERO(T)` (R28). -/
def zT (s : State) : Bool := isZero s.t

/-- `zL = ISZERO(L)` (R28). -/
def zL (s : State) : Bool := isZero s.l

/-- `zL' = ISZERO(DEC(L))` (R80). -/
def zLNext (s : State) : Bool := isZero (decIn s s.l)

/-- The POLL3 vector of button `k` with the samples `b` (R78). -/
def pollVector (b : BitVec 4) (k : Button) (s : State) : BitVec 3 :=
  vec3 (allowed s k) (pressed b k) (getBit s.rel k)

/-- The SS3 vector (R79). -/
def ssVector (s : State) : BitVec 3 := vec3 (getBit s.fire .ss) s.active (zT s)

/-- The TICK3 vector (R80). -/
def tickVector (s : State) : BitVec 3 := vec3 s.active (ge s) (zLNext s)

/-- The REL2 vector (R81). -/
def relayVector (s : State) : BitVec 2 := vec2 s.a0 s.active

/-- The output decode of R122 for `seg`, from the registers and `rst`. -/
def segDecode (s : State) : BitVec 7 :=
  if s.ports.rst then 0
  else
    match slotOf s.ph with
    | some i => codec s.cfg.glyphs (shownDigit s i)
    | none => 0

/-- The output decode of R122 for `dig_en`. -/
def digEnDecode (s : State) : BitVec 4 :=
  if s.ports.rst then 0
  else
    match slotOf s.ph with
    | some i => onehot4 i
    | none => 0

end Sys2Proof.Machine
end

