-- ==== Sys2Proof/Machine/Ops.lean ====
section
/-! DEFINITION. The named operations over the registers that the rows share. The block has no memory
(spec/20_memory.md R50) and takes no exception (spec/60_exceptions.md R260), so there is no memory
operation here and no exception entry or return. -/

namespace Sys2Proof.Machine

/-- The configurations R263 does not refuse (R6). -/
def legalConfig (c : Config) : Bool :=
  decide (1 ≤ c.dwellMs) && decide (c.dwellMs ≤ 250) && decide (1 ≤ c.dwellCycles)

/-- Drive the segment lines with the pattern of a digit code (R100). -/
def showDigit (d : Digit) (s : State) : State := { s with seg := codec s.cfg.glyphs d }

/-- All enables and segments off (R122: `UPD`, reset, an illegal phase). -/
def dark (s : State) : State := { s with seg := 0, digEn := 0 }

/-- Evaluate BCD_INC on `x`: the result bus takes `INC(x)`; a draw taken is used up (R171, R176). -/
def evalInc (x : TimeValue) (s : State) : State :=
  { s with bcdOut := incIn s x, draws := if takesDraw incDigit s x then s.draws + 1 else s.draws }

/-- Evaluate BCD_DEC on `x` (R172, R176). -/
def evalDec (x : TimeValue) (s : State) : State :=
  { s with bcdOut := decIn s x, draws := if takesDraw decDigit s x then s.draws + 1 else s.draws }

/-- Evaluate BCD_ISZERO on `x` (R173). -/
def evalIsZero (x : TimeValue) (s : State) : State := { s with bcdZero := isZero x }

/-- What a debouncer step of button `k` writes: `fire[k]` and `rel[k]` (R151). -/
def pollWrite (k : Button) (fires latch : Bool) (s : State) : State :=
  { s with fire := setBit s.fire k fires, rel := setBit s.rel k latch }

/-- `T <- INC(T)` (spec/45_pass_sequencer.md R233). -/
def incTimeout (s : State) : State :=
  let s := evalInc s.t s
  { s with t := s.bcdOut }

/-- `T <- DEC(T)` (R234). -/
def decTimeout (s : State) : State :=
  let s := evalDec s.t s
  { s with t := s.bcdOut }

/-- `save_data_r <- pack(T); save_stb_r <- 1` (R235). -/
def saveTimeout (s : State) : State := { s with saveData := pack s.t, saveStb := true }

/-- `save_stb_r <- 0` (R235). -/
def clearStrobe (s : State) : State := { s with saveStb := false }

/-- `L <- T; acc <- 0; active <- 1` (spec/44_countdown_fsm.md R201). -/
def startCountdown (s : State) : State := { s with l := s.t, acc := 0, active := true }

/-- `active <- 0`, with `L` and `acc` as they are (R203, R205, R207). -/
def deactivate (s : State) : State := { s with active := false }

/-- The writes of a tick that is taken: `L <- DEC(L); acc <- acc - 1000` (R204), and the zero test of the
new `L` (R205). -/
def tickDown (s : State) : State :=
  let s := evalDec s.l s
  let s := { s with l := s.bcdOut, acc := s.acc - 1000 }
  evalIsZero s.l s

/-- `acc <- (acc + DWELL_MS) mod 2^16` (spec/41_display_multiplexer.md R125). -/
def addDwell (s : State) : State := { s with acc := s.acc + BitVec.ofNat 16 s.cfg.dwellMs }

/-- `relay_r <- v` (R238). -/
def driveRelay (v : Bool) (s : State) : State := { s with relay := v }

/-- The accrual of a slot's end, gated on `active` (R125). -/
def accrual (s : State) : State := if s.active then addDwell s else s

/-- The segment driver in slot `i` (R122). -/
def driveSlot (i : Fin 4) (s : State) : State :=
  showDigit (shownDigit s i) { s with digEn := onehot4 i }

/-- What ends a phase step: the dwell timer is back at 0 (R124), and the synchronizer holds the level that
was presented during the step (log 5; no phase-level rule reads it, R34). -/
def endPhase (s : State) : State :=
  { s with dwt := 0, btnSync := ⟨s.ports.btnN, s.ports.btnN⟩ }

/-- Slot `i` as a phase step (R122, R125, R126; the strobe clear of R235). -/
def slotPhase (i : Fin 4) (s : State) : State :=
  endPhase { accrual (clearStrobe (driveSlot i s)) with ph := phaseAfterSlot i }

/-- An illegal phase: one dark cycle, then `S0`; no other register changes (R127). -/
def recoverPhase (s : State) : State := { dark s with ph := 0b000 }

/-- A reset edge (spec/10_state.md R41, spec/70_reset_and_hazards.md R280). The configuration and the
environment's own fields are not registers and stay (log 12). -/
def resetBlock (s : State) : State :=
  { State.afterReset s.cfg s.ports with script := s.script, portDraws := s.portDraws, draws := s.draws }

/-- The port levels of the next step: the script's head, and when the script is at its end a free value
(log 3). -/
def nextPorts (s : State) : State :=
  match s.script with
  | p :: ps => { s with ports := p, script := ps }
  | [] => { s with ports := Config.freePorts s.portDraws, portDraws := s.portDraws + 1 }

/-- A step's outcome with the environment moved on to the next step. -/
def thenNextPorts (o : Host.Outcome State Fault Refusal) : Host.Outcome State Fault Refusal :=
  match o with
  | .next s => .next (nextPorts s)
  | .fault f => .fault f
  | .refused r => .refused r

end Sys2Proof.Machine
end

