-- ==== Sys2Proof/Machine/Actions.lean ====
section
/-! DEFINITION. The rows of formats FIRE and REL2: the button actions and the relay bit
(spec/45_pass_sequencer.md R233 to R235, R238). -/

namespace Sys2Proof.Machine

def execActInc (s : State) : Host.Outcome State Fault Refusal := .next (incTimeout s)

def execActDec (s : State) : Host.Outcome State Fault Refusal := .next (decTimeout s)

def execActSave (s : State) : Host.Outcome State Fault Refusal := .next (saveTimeout s)

def execRelayOn (s : State) : Host.Outcome State Fault Refusal := .next (driveRelay true s)

def execRelayOff (s : State) : Host.Outcome State Fault Refusal := .next (driveRelay false s)

/-- `a0 active = 0 0`: no write (R81). -/
def execRelayHold0 (s : State) : Host.Outcome State Fault Refusal := .next s

/-- `a0 active = 1 1`: no write (R81). -/
def execRelayHold1 (s : State) : Host.Outcome State Fault Refusal := .next s

end Sys2Proof.Machine
end

