-- ==== Sys2Proof/Machine/Bcd.lean ====
section
/-! DEFINITION. The rows of format BCD_FN: the three functions of the BCD counter on a given time value,
their results on the counter's result lines (spec/43_bcd_counter.md R171 to R173, R180). -/

namespace Sys2Proof.Machine

def execBcdInc (x : TimeValue) (s : State) : Host.Outcome State Fault Refusal := .next (evalInc x s)

def execBcdDec (x : TimeValue) (s : State) : Host.Outcome State Fault Refusal := .next (evalDec x s)

def execBcdIsZero (x : TimeValue) (s : State) : Host.Outcome State Fault Refusal := .next (evalIsZero x s)

end Sys2Proof.Machine
end

