-- ==== Sys2Proof/Machine/Codec.lean ====
section
/-! DEFINITION. The rows of format DIGIT: the digit codec (spec/40_digit_codec.md R100 to R105). Each
drives the segment lines with its code's pattern and writes no register. -/

namespace Sys2Proof.Machine

def execEnc0 (s : State) : Host.Outcome State Fault Refusal := .next (showDigit 0 s)

def execEnc1 (s : State) : Host.Outcome State Fault Refusal := .next (showDigit 1 s)

def execEnc2 (s : State) : Host.Outcome State Fault Refusal := .next (showDigit 2 s)

def execEnc3 (s : State) : Host.Outcome State Fault Refusal := .next (showDigit 3 s)

def execEnc4 (s : State) : Host.Outcome State Fault Refusal := .next (showDigit 4 s)

def execEnc5 (s : State) : Host.Outcome State Fault Refusal := .next (showDigit 5 s)

def execEnc6 (s : State) : Host.Outcome State Fault Refusal := .next (showDigit 6 s)

def execEnc7 (s : State) : Host.Outcome State Fault Refusal := .next (showDigit 7 s)

def execEnc8 (s : State) : Host.Outcome State Fault Refusal := .next (showDigit 8 s)

def execEnc9 (s : State) : Host.Outcome State Fault Refusal := .next (showDigit 9 s)

/-- Codes 10 and 11 (R102). -/
def execEncBlankAB (d : Digit) (s : State) : Host.Outcome State Fault Refusal := .next (showDigit d s)

/-- Codes 12 to 15 (R102). -/
def execEncBlankCF (d : Digit) (s : State) : Host.Outcome State Fault Refusal := .next (showDigit d s)

end Sys2Proof.Machine
end

