-- ==== Sys2Proof/Machine/Countdown.lean ====
section
/-! DEFINITION. The rows of formats SS3 and TICK3: the countdown state machine
(spec/44_countdown_fsm.md R200 to R206; spec/30_encoding.md R79, R80). -/

namespace Sys2Proof.Machine

def execStart (s : State) : Host.Outcome State Fault Refusal := .next (startCountdown s)

/-- "no change to L, acc or active" (R202). -/
def execStartRefused (s : State) : Host.Outcome State Fault Refusal := .next s

def execStop (_zT : Bool) (s : State) : Host.Outcome State Fault Refusal := .next (deactivate s)

/-- SS did not fire: "no change" (R79, R200). -/
def execSsNone (_active _zT : Bool) (s : State) : Host.Outcome State Fault Refusal := .next s

def execTickContinue (s : State) : Host.Outcome State Fault Refusal := .next (tickDown s)

/-- The tick's writes, then `active <- 0` (R204, R205). -/
def execTickAutostop (s : State) : Host.Outcome State Fault Refusal := .next (deactivate (tickDown s))

/-- Active and `acc < 1000`: "no change" (R80). -/
def execTickWait (_zL : Bool) (s : State) : Host.Outcome State Fault Refusal := .next s

/-- Inactive: "no change" (R80). -/
def execTickIdle (_ge _zL : Bool) (s : State) : Host.Outcome State Fault Refusal := .next s

end Sys2Proof.Machine
end

