-- ==== Sys2Proof/Machine/Debouncer.lean ====
section
/-! DEFINITION. The rows of format POLL3: one debouncer step of a button (spec/42_debouncer.md R151,
R153; spec/30_encoding.md R78). -/

namespace Sys2Proof.Machine

def execPollFire (k : Button) (s : State) : Host.Outcome State Fault Refusal := .next (pollWrite k true false s)

def execPollSuppress (k : Button) (s : State) : Host.Outcome State Fault Refusal :=
  .next (pollWrite k false false s)

/-- Not pressed: re-arm, whatever the latch was. -/
def execPollIdle (k : Button) (_latch : Bool) (s : State) : Host.Outcome State Fault Refusal :=
  .next (pollWrite k false true s)

/-- Disallowed: treated as idle, whatever the button and the latch were (R153). -/
def execPollDisallowed (k : Button) (_pressed _latch : Bool) (s : State) : Host.Outcome State Fault Refusal :=
  .next (pollWrite k false true s)

end Sys2Proof.Machine
end

