-- ==== Sys2Proof/Machine/Multiplexer.lean ====
section
/-! DEFINITION. The slot and illegal-phase rows of format PH3 and the rows of format ACC1: the display
multiplexer (spec/41_display_multiplexer.md R120 to R130). -/

namespace Sys2Proof.Machine

def execSlot0 (s : State) : Host.Outcome State Fault Refusal := .next (slotPhase 0 s)

def execSlot1 (s : State) : Host.Outcome State Fault Refusal := .next (slotPhase 1 s)

def execSlot2 (s : State) : Host.Outcome State Fault Refusal := .next (slotPhase 2 s)

def execSlot3 (s : State) : Host.Outcome State Fault Refusal := .next (slotPhase 3 s)

/-- Phase code 5 (R127). -/
def execPhIllegal5 (s : State) : Host.Outcome State Fault Refusal := .next (endPhase (recoverPhase s))

/-- Phase codes 6 and 7 (R127). -/
def execPhIllegal67 (_ph : BitVec 3) (s : State) : Host.Outcome State Fault Refusal :=
  .next (endPhase (recoverPhase s))

def execAccrue (s : State) : Host.Outcome State Fault Refusal := .next (addDwell s)

/-- "no change" (R125). -/
def execNoAccrue (s : State) : Host.Outcome State Fault Refusal := .next s

end Sys2Proof.Machine
end

