-- ==== Sys2Proof/Machine/Reset.lean ====
section
/-! DEFINITION. The row RESET (spec/10_state.md R41; spec/70_reset_and_hazards.md R280). -/

namespace Sys2Proof.Machine

def execReset (s : State) : Host.Outcome State Fault Refusal := .next (resetBlock s)

end Sys2Proof.Machine
end

