-- ==== Sys2Proof/Machine/Update.lean ====
section
/-! DEFINITION. The row UPDATE: the update phase, written from the pseudocode of
spec/45_pass_sequencer.md R231. Each stage reads what the stages before it wrote
(spec/20_memory.md R60). `b` is the synchronized sample of `btn_n`. -/

namespace Sys2Proof.Machine

/-- `a0 = active`, and the display dark throughout `UPD` (R231, R232). -/
def enterUpdate (s : State) : State := { dark s with a0 := s.active }

/-- The poll of button `k`: `(f, rel[k]) <- POLL(allowed, b[k] == 0, rel[k])` (R231, R151). -/
def pollButton (b : BitVec 4) (k : Button) (s : State) : State :=
  let r := poll (allowed s k) (pressed b k) (getBit s.rel k)
  pollWrite k r.1 r.2 s

/-- The action that follows the poll of button `k` (R231, step 1). SS has none (R236). -/
def fireAction (k : Button) (s : State) : State :=
  match k with
  | .inc => if getBit s.fire .inc then incTimeout s else s
  | .dec => if getBit s.fire .dec then decTimeout s else s
  | .save => if getBit s.fire .save then saveTimeout s else clearStrobe s
  | .ss => s

/-- A poll and its action. -/
def press (b : BitVec 4) (k : Button) (s : State) : State := fireAction k (pollButton b k s)

/-- Step 1 of R231: the four buttons in bit order. -/
def pollAll (b : BitVec 4) (s : State) : State :=
  press b .ss (press b .save (press b .dec (press b .inc s)))

/-- Step 2 of R231: the START/STOP dispatch. `zT` is ISZERO of `T` as it stands after step 1. -/
def dispatch (s : State) : State :=
  let s := evalIsZero s.t s
  if getBit s.fire .ss && s.active then deactivate s
  else if getBit s.fire .ss && !s.active && !s.bcdZero then startCountdown s
  else s

/-- Step 3 of R231: the tick, at most one (R206). -/
def tick (s : State) : State :=
  if s.active && ge s then
    let s := tickDown s
    if s.bcdZero then deactivate s else s
  else s

/-- Step 4 of R231: the relay is written on a change of `active` only (R238). -/
def relaySync (s : State) : State := if s.active ≠ s.a0 then driveRelay s.active s else s

/-- The whole of `UPD` with the sample `b`: steps 1 to 4, then `ph <- S0` (R231). -/
def updateBlock (b : BitVec 4) (s : State) : State :=
  { relaySync (tick (dispatch (pollAll b (enterUpdate s)))) with ph := 0b000 }

/-- UPDATE as a phase step: the sample is the level presented in this step
(spec/42_debouncer.md R155). -/
def execUpdate (s : State) : Host.Outcome State Fault Refusal := .next (endPhase (updateBlock s.ports.btnN s))

end Sys2Proof.Machine
end

