-- ==== Sys2Proof/Machine/Dispatch.lean ====
section
/-! DEFINITION. The meaning of every row of spec/opcode_table.json, one arm a constructor. -/

namespace Sys2Proof.Machine

def exec (i : Instr) (s : State) : Host.Outcome State Fault Refusal :=
  match i with
  | .enc0 => Sys2Proof.Machine.execEnc0 s
  | .enc1 => Sys2Proof.Machine.execEnc1 s
  | .enc2 => Sys2Proof.Machine.execEnc2 s
  | .enc3 => Sys2Proof.Machine.execEnc3 s
  | .enc4 => Sys2Proof.Machine.execEnc4 s
  | .enc5 => Sys2Proof.Machine.execEnc5 s
  | .enc6 => Sys2Proof.Machine.execEnc6 s
  | .enc7 => Sys2Proof.Machine.execEnc7 s
  | .enc8 => Sys2Proof.Machine.execEnc8 s
  | .enc9 => Sys2Proof.Machine.execEnc9 s
  | .encBlankAB d => Sys2Proof.Machine.execEncBlankAB d s
  | .encBlankCF d => Sys2Proof.Machine.execEncBlankCF d s
  | .slot0 => Sys2Proof.Machine.execSlot0 s
  | .slot1 => Sys2Proof.Machine.execSlot1 s
  | .slot2 => Sys2Proof.Machine.execSlot2 s
  | .slot3 => Sys2Proof.Machine.execSlot3 s
  | .update => Sys2Proof.Machine.execUpdate s
  | .phIllegal5 => Sys2Proof.Machine.execPhIllegal5 s
  | .phIllegal67 ph => Sys2Proof.Machine.execPhIllegal67 ph s
  | .pollFire k => Sys2Proof.Machine.execPollFire k s
  | .pollSuppress k => Sys2Proof.Machine.execPollSuppress k s
  | .pollIdle k latch => Sys2Proof.Machine.execPollIdle k latch s
  | .pollDisallowed k pressed latch => Sys2Proof.Machine.execPollDisallowed k pressed latch s
  | .actInc => Sys2Proof.Machine.execActInc s
  | .actDec => Sys2Proof.Machine.execActDec s
  | .actSave => Sys2Proof.Machine.execActSave s
  | .start => Sys2Proof.Machine.execStart s
  | .startRefused => Sys2Proof.Machine.execStartRefused s
  | .stop zT => Sys2Proof.Machine.execStop zT s
  | .ssNone active zT => Sys2Proof.Machine.execSsNone active zT s
  | .tickContinue => Sys2Proof.Machine.execTickContinue s
  | .tickAutostop => Sys2Proof.Machine.execTickAutostop s
  | .tickWait zL => Sys2Proof.Machine.execTickWait zL s
  | .tickIdle ge zL => Sys2Proof.Machine.execTickIdle ge zL s
  | .accrue => Sys2Proof.Machine.execAccrue s
  | .noAccrue => Sys2Proof.Machine.execNoAccrue s
  | .relayOn => Sys2Proof.Machine.execRelayOn s
  | .relayOff => Sys2Proof.Machine.execRelayOff s
  | .relayHold0 => Sys2Proof.Machine.execRelayHold0 s
  | .relayHold1 => Sys2Proof.Machine.execRelayHold1 s
  | .reset => Sys2Proof.Machine.execReset s
  | .bcdInc x => Sys2Proof.Machine.execBcdInc x s
  | .bcdDec x => Sys2Proof.Machine.execBcdDec x s
  | .bcdIsZero x => Sys2Proof.Machine.execBcdIsZero x s

end Sys2Proof.Machine
end

