-- ==== Sys2Proof/Machine/Fetch.lean ====
section
/-! DEFINITION. What the block decodes at the head of a step: the reset input, else the phase register
(spec/30_encoding.md R76, spec/41_display_multiplexer.md R126); and the placing of a given row, so that
the next step runs it (log 9). -/

namespace Sys2Proof.Machine

/-- The operation the coming phase step runs. `rst` overrides the phase (R41, R126). -/
def fetch (s : State) : Instr := if s.ports.rst then .reset else decodePhase s.ph

/-- The operation word that stands for it. -/
def fetchBytes (s : State) : List Byte := if s.ports.rst then word .rst 1 else word .phase s.ph.toNat

/-- Enter the phase `ph` with `rst` released. -/
def placePhase (ph : BitVec 3) (s : State) : State :=
  { s with ph := ph, ports := { s.ports with rst := false } }

/-- Enter `UPD` with the button samples `b`. -/
def placeUpdate (b : BitVec 4) (s : State) : State :=
  { s with ph := 0b100, ports := { s.ports with rst := false, btnN := b } }

/-- Enter `S0` with the digit code `d` as the digit that slot shows. -/
def placeDigit (d : Digit) (s : State) : State :=
  let s := placePhase 0b000 s
  if s.active then { s with l := { s.l with d3 := d } } else { s with t := { s.t with d3 := d } }

/-- Enter `UPD` with button `k` alone polled as `allowed pressed latch`, the other buttons released. SS is
allowed in both states (R154), so its `allowed` is not placed. -/
def placePoll (k : Button) (allowed pressed latch : Bool) (s : State) : State :=
  let s := placeUpdate (if pressed then setBit 0b1111 k false else 0b1111) s
  let s := { s with rel := setBit s.rel k latch }
  match k with
  | .inc => { s with active := !allowed }
  | .dec => { s with active := !allowed }
  | .save => { s with active := !allowed }
  | .ss => s

/-- Enter `UPD` so that the dispatch sees `fire[3] active zT`. -/
def placeDispatch (fires active zero : Bool) (s : State) : State :=
  let s := placePoll .ss true fires true s
  let s := { s with active := active }
  if zero then { s with t := zeroTime } else if isZero s.t then { s with t := { s.t with d0 := 1 } } else s

/-- Enter `UPD` with no button pressed so that the tick sees `active ge zL'`. -/
def placeTick (active ge zero : Bool) (s : State) : State :=
  { placeUpdate 0b1111 s with
    active := active
    acc := if ge then 1000 else 0
    l := if zero then ⟨1, 0, 0, 0⟩ else ⟨2, 0, 0, 0⟩ }

/-- `s` with everything set that it takes for the next step to run the row `i` (log 9). -/
def placeInstr (i : Instr) (s : State) : State :=
  match i with
  | .enc0 => placeDigit 0 s
  | .enc1 => placeDigit 1 s
  | .enc2 => placeDigit 2 s
  | .enc3 => placeDigit 3 s
  | .enc4 => placeDigit 4 s
  | .enc5 => placeDigit 5 s
  | .enc6 => placeDigit 6 s
  | .enc7 => placeDigit 7 s
  | .enc8 => placeDigit 8 s
  | .enc9 => placeDigit 9 s
  | .encBlankAB d => placeDigit d s
  | .encBlankCF d => placeDigit d s
  | .slot0 => placePhase 0b000 s
  | .slot1 => placePhase 0b001 s
  | .slot2 => placePhase 0b010 s
  | .slot3 => placePhase 0b011 s
  | .update => placePhase 0b100 s
  | .phIllegal5 => placePhase 0b101 s
  | .phIllegal67 ph => placePhase ph s
  | .pollFire k => placePoll k true true true s
  | .pollSuppress k => placePoll k true true false s
  | .pollIdle k latch => placePoll k true false latch s
  | .pollDisallowed k pressed latch => placePoll k false pressed latch s
  | .actInc => placePoll .inc true true true s
  | .actDec => placePoll .dec true true true s
  | .actSave => placePoll .save true true true s
  | .start => placeDispatch true false false s
  | .startRefused => placeDispatch true false true s
  | .stop zero => placeDispatch true true zero s
  | .ssNone active zero => placeDispatch false active zero s
  | .tickContinue => placeTick true true false s
  | .tickAutostop => placeTick true true true s
  | .tickWait zero => placeTick true false zero s
  | .tickIdle g zero => placeTick false g zero s
  | .accrue => { placePhase 0b000 s with active := true }
  | .noAccrue => { placePhase 0b000 s with active := false }
  | .relayOn => placeDispatch true false false s
  | .relayOff => placeDispatch true true false s
  | .relayHold0 => placeTick false false false s
  | .relayHold1 => placeTick true false false s
  | .reset => { s with ports := { s.ports with rst := true } }
  | .bcdInc x => placePoll .inc true true true { s with t := x }
  | .bcdDec x => placePoll .dec true true true { s with t := x }
  | .bcdIsZero x => { placeUpdate 0b1111 s with t := x }

end Sys2Proof.Machine
end

