-- ==== Sys2Proof/Machine/Step.lean ====
section
/-! DEFINITION. One step of the block: one phase (spec/00_scope.md R4). -/

namespace Sys2Proof.Machine

/-- One phase step. A configuration outside R6 is refused (R263); else the row fetched runs, and the
environment presents the next step's port levels. -/
def step (s : State) : Host.Outcome State Fault Refusal :=
  if legalConfig s.cfg then thenNextPorts (exec (fetch s) s) else .refused .configuration

/-- `s` with the operation of the table word `w` placed where the next step runs it (log 9). -/
def State.withFetchWord (s : State) (nbits w : Nat) : State :=
  match decodeTableWord nbits w with
  | some i => placeInstr i s
  | none => s

end Sys2Proof.Machine
end

