-- ==== Sys2Proof/Machine/Clock.lean ====
section
/-! DEFINITION. The block at clock level, one `clk` edge at a time: the dwell timer
(spec/41_display_multiplexer.md R124), the synchronizer (spec/42_debouncer.md R156) and the strobe of one
cycle (spec/45_pass_sequencer.md R235). `step` is the normative phase level (spec/00_scope.md R4);
this file refines it (log 4). Here the port level `btn_n` is the raw one, and `UPD` samples the
synchronizer's second stage. -/

namespace Sys2Proof.Machine

/-- The width of `dwt`: "the least `w` with `2^w >= DWELL_CYCLES`, and at least 1" (R27). -/
def dwtWidth (c : Config) : Nat := if c.dwellCycles ≤ 2 then 1 else Nat.log2 (c.dwellCycles - 1) + 1

/-- The synchronizer takes the raw level in (R156). -/
def shiftSync (s : State) : State := { s with btnSync := ⟨s.ports.btnN, s.btnSync.stage1⟩ }

/-- One cycle of slot `i` (R124): the outputs of R122 throughout, the strobe cleared (R235), and at the
slot's last cycle the accrual (R125) and the phase advance (R126). -/
def clockSlot (i : Fin 4) (s : State) : State :=
  let s := clearStrobe (driveSlot i s)
  if s.dwt + 1 = s.cfg.dwellCycles then { accrual s with ph := phaseAfterSlot i, dwt := 0 }
  else { s with dwt := (s.dwt + 1) % 2 ^ dwtWidth s.cfg }

/-- One clock edge. -/
def clockEdge (s : State) : State :=
  if s.ports.rst then resetBlock s
  else
    match slotOf s.ph with
    | some i => shiftSync (clockSlot i s)
    | none =>
      if s.ph = 0b100 then shiftSync { updateBlock s.btnSync.stage2 s with dwt := 0 }
      else shiftSync { recoverPhase s with dwt := 0 }

/-- One clock step of the machine with its environment. -/
def clock (s : State) : Host.Outcome State Fault Refusal :=
  if legalConfig s.cfg then .next (nextPorts (clockEdge s)) else .refused .configuration

/-- Clock edges with the given port levels, one an edge. -/
def clockRun (ps : List Ports) (s : State) : State := ps.foldl (fun s p => clockEdge { s with ports := p }) s

end Sys2Proof.Machine
end

