-- ==== Sys2Proof/Machine/Pass.lean ====
section
/-! DEFINITION. The pass function of spec/45_pass_sequencer.md R240, written from its own pseudocode, and
the sequences of passes that R157 and R211 speak of. -/

namespace Sys2Proof.Machine

/-- The frame a pass shows: `(onehot4(i), ENCODE(src[3-i]))` for `i` in 0 to 3 (R240). -/
def frame (s : State) : List (BitVec 4 × BitVec 7) :=
  [0, 1, 2, 3].map fun i => (onehot4 i, codec s.cfg.glyphs (shownDigit s i))

/-- The one accrual of `4*DWELL_MS` that stands for the frame's four (R240, R129). -/
def accrueFrame (s : State) : State :=
  if s.active then { s with acc := s.acc + BitVec.ofNat 16 (4 * s.cfg.dwellMs) } else s

/-- `PASS(s, b)` (R240). The dwell timer and the synchronizer are as a phase step leaves them. -/
def pass (b : BitVec 4) (s : State) : State :=
  { updateBlock b (accrueFrame s) with dwt := 0, btnSync := ⟨b, b⟩ }

/-- Consecutive passes with the given samples. -/
def passes (bs : List (BitVec 4)) (s : State) : State := bs.foldl (fun s b => pass b s) s

/-- The fires of button `k` over consecutive passes (R157). -/
def passFires (k : Button) : List (BitVec 4) → State → List Bool
  | [], _ => []
  | b :: bs, s => getBit (pass b s).fire k :: passFires k bs (pass b s)

/-- No sample of a list fires an allowed button whose latch is `latch` (R151): "no STOP follows" (R211). -/
def silent (latch : Bool) (samples : List Bool) : Bool := (pollRun latch samples).all fun f => !f

end Sys2Proof.Machine
end

