-- ==== Sys2Proof/Machine/Pins.lean ====
section
/-! DEFINITION. The output ports (spec/10_state.md R21, R33) and the physical pins
(spec/41_display_multiplexer.md R131). -/

namespace Sys2Proof.Machine

/-- The logical output ports. -/
structure Outputs where
  seg : BitVec 7
  digEn : BitVec 4
  relay : Bool
  saveStb : Bool
  saveData : BitVec 16
  active : Bool
  deriving DecidableEq, Repr

/-- The levels at the output ports while the block is in state `s`: the Moore decode of R122, and the
registers of R33; while `rst = 1`, `relay = 0` and `save_stb = 0` (spec/70_reset_and_hazards.md R280),
in the cycle before the first reset edge too ("Reset overrides every other rule"). -/
def outputs (s : State) : Outputs where
  seg := segDecode s
  digEn := digEnDecode s
  relay := s.relay && !s.ports.rst
  saveStb := s.saveStb && !s.ports.rst
  saveData := s.saveData
  active := s.active

/-- `SEG_pin[j] = seg[j] XOR SEG_ACTIVE_LOW`. -/
def segPins (s : State) : BitVec 7 := (outputs s).seg ^^^ (if s.cfg.segActiveLow then BitVec.allOnes 7 else 0)

/-- `DIG_pin[i] = dig_en[i] XOR DIG_ACTIVE_LOW`. -/
def digPins (s : State) : BitVec 4 := (outputs s).digEn ^^^ (if s.cfg.digActiveLow then BitVec.allOnes 4 else 0)

/-- `RELAY_pin = relay XOR RELAY_ACTIVE_LOW`. -/
def relayPin (s : State) : Bool := (outputs s).relay ^^ s.cfg.relayActiveLow

end Sys2Proof.Machine
end

