-- ==== Sys2Proof/Machine/Rows.lean ====
section
/-! DEFINITION. The rows of the table that a phase step decodes (spec/30_encoding.md section 8), as data:
the phase's own row, the rows of the other formats that run inside it, and the BCD functions these use.
The step is not defined through this file; the obligation PlacedWordIsRunNext states that running the
inner rows one after another through `exec` is what the step does. -/

namespace Sys2Proof.Machine

/-- The FIRE row a poll leads to, if any. -/
def actionRows (k : Button) (s : State) : List Instr := (decodeFire k (getBit s.fire k)).toList

/-- The poll row of button `k` and the action row after it. -/
def pressRows (b : BitVec 4) (k : Button) (s : State) : List Instr :=
  decodePoll k (pollVector b k s) :: actionRows k (pollButton b k s)

/-- The rows that run inside `UPD` with the sample `b`, in the order of R231. -/
def updateRows (b : BitVec 4) (s : State) : List Instr :=
  let s0 := enterUpdate s
  let s1 := press b .inc s0
  let s2 := press b .dec s1
  let s3 := press b .save s2
  let s4 := press b .ss s3
  let s5 := dispatch s4
  let s6 := tick s5
  pressRows b .inc s0 ++ (pressRows b .dec s1 ++ (pressRows b .save s2 ++ (pressRows b .ss s3 ++
    [.bcdIsZero s4.t, decodeSs (ssVector s4), decodeTick (tickVector s5), decodeRelay (relayVector s6)])))

/-- The rows that run inside the coming phase step. -/
def innerRows (s : State) : List Instr :=
  match fetch s, slotOf s.ph with
  | .update, _ => updateRows s.ports.btnN s
  | .reset, _ => []
  | _, some n => [decodeDigit (shownDigit s n), decodeAccrual s.active]
  | _, none => []

/-- The state the first inner row sees: the phase's enables and entry flag, and the strobe cleared, which a
SAVE row of this phase raises again (R122, R231, R235). An illegal phase clears no strobe (R127). -/
def enterPhase (s : State) : State :=
  match fetch s, slotOf s.ph with
  | .update, _ => clearStrobe (enterUpdate s)
  | .reset, _ => resetBlock s
  | _, some n => clearStrobe { s with digEn := onehot4 n }
  | _, none => dark s

/-- Each row of a list with the state `exec` of the rows before it leads to. -/
def trace : List Instr → State → List (Instr × State)
  | [], _ => []
  | i :: is, s =>
    match exec i s with
    | .next t => (i, s) :: trace is t
    | .fault _ => [(i, s)]
    | .refused _ => [(i, s)]

/-- The rows of a list run one after another through `exec`. -/
def runRows : List Instr → State → Host.Outcome State Fault Refusal
  | [], s => .next s
  | i :: is, s =>
    match exec i s with
    | .next t => runRows is t
    | .fault f => .fault f
    | .refused r => .refused r

/-- The BCD functions a row uses in state `s` (spec/43_bcd_counter.md R178). -/
def usedRows (i : Instr) (s : State) : List Instr :=
  match i with
  | .actInc => [.bcdInc s.t]
  | .actDec => [.bcdDec s.t]
  | .tickContinue => [.bcdDec s.l, .bcdIsZero (decIn s s.l)]
  | .tickAutostop => [.bcdDec s.l, .bcdIsZero (decIn s s.l)]
  | _ => []

/-- The rows the coming phase step runs: its own, the inner ones, and the BCD functions they use. -/
def rowsOf (s : State) : List Instr :=
  fetch s :: (trace (innerRows s) (enterPhase s)).flatMap fun p => p.1 :: usedRows p.1 p.2

end Sys2Proof.Machine
end

