-- ==== Sys2Proof/Safety.lean ====
section
/-! DEFINITION. What holds of a safe run, in the terms the statements use: the invariants of
spec/10_state.md R36 to R39 at the start of every phase, and at every clock edge. -/

namespace Sys2Proof.Machine

/-- The display is dark, or exactly one position is enabled (spec/41_display_multiplexer.md R123). -/
def DisplayLines (s : State) : Prop := (s.digEn = 0 ∧ s.seg = 0) ∨ ∃ i, s.digEn = onehot4 i

/-- The invariant at the start of every phase. -/
structure Inv (s : State) : Prop where
  /-- the configuration is one R263 does not refuse -/
  config : legalConfig s.cfg = true
  /-- `ph` is `S0` to `UPD` (R26) -/
  phase : s.ph.toNat ≤ 4
  /-- `dwt` is 0 between phases (R124) -/
  dwell : s.dwt = 0
  /-- `relay_r = active` (R38) -/
  relay : s.relay = s.active
  /-- while Active the live countdown is not zero (R37) -/
  live : s.active = true → isZero s.l = false
  /-- while Active, `acc` is below 1000 plus the dwells of this frame so far (R39, R210) -/
  accActive : s.active = true → s.acc.toNat < 1000 + s.ph.toNat * s.cfg.dwellMs
  /-- "At every point, `acc <= 1000 + 4*DWELL_MS - 1`" (R39) -/
  acc : s.acc.toNat < 1000 + 4 * s.cfg.dwellMs
  /-- the strobe is up in `S0` only (R235) -/
  strobe : s.saveStb = true → s.ph = 0b000
  /-- the lines of the phase last executed (R123) -/
  lines : DisplayLines s

/-- The invariant at every clock edge. -/
structure ClockInv (s : State) : Prop where
  config : legalConfig s.cfg = true
  phase : s.ph.toNat ≤ 4
  /-- `dwt` is 0 to `DWELL_CYCLES - 1`, and 0 in `UPD` (R27) -/
  dwell : s.dwt < s.cfg.dwellCycles
  dwellUpd : s.ph = 0b100 → s.dwt = 0
  relay : s.relay = s.active
  live : s.active = true → isZero s.l = false
  accActive : s.active = true → s.acc.toNat < 1000 + s.ph.toNat * s.cfg.dwellMs
  acc : s.acc.toNat < 1000 + 4 * s.cfg.dwellMs
  /-- "`save_stb` is 1 for exactly one cycle, the first cycle of the next `S0`" (R235) -/
  strobe : s.saveStb = true → s.ph = 0b000 ∧ s.dwt = 0

/-- What the phase level sees of a state: everything but the environment's own fields and the
synchronizer, whose contents "are not observable at phase level" (spec/10_state.md R34). -/
def phaseView (s : State) : State :=
  { s with ports := ⟨false, 0, 0⟩, script := [], portDraws := 0, btnSync := ⟨0, 0⟩ }

/-- `s` with every output line and combinational signal set to a given level (spec/10_state.md R28,
R33: none of them is a register). -/
def withSignals (seg : BitVec 7) (digEn fire : BitVec 4) (a0 : Bool) (bcdOut : TimeValue) (bcdZero : Bool)
    (s : State) : State :=
  { s with seg := seg, digEn := digEn, fire := fire, a0 := a0, bcdOut := bcdOut, bcdZero := bcdZero }

/-- The registers of a state, its output lines and signals forgotten. -/
def registers (s : State) : State := withSignals 0 0 0 false zeroTime false s

/-- `s` with the three polarity parameters set (spec/41_display_multiplexer.md R131). -/
def withPolarity (seg dig relay : Bool) (s : State) : State :=
  { s with cfg := { s.cfg with segActiveLow := seg, digActiveLow := dig, relayActiveLow := relay } }

/-- A button that is allowed in every one of the coming passes: SS always, the others while Inactive
(spec/42_debouncer.md R154). -/
def AllowedThroughout (k : Button) (bs : List (BitVec 4)) (s : State) : Prop :=
  k = .ss ∨ ∀ n, n < bs.length → (passes (bs.take n) s).active = false

/-- Whether button `k` fires at the sample `b` in state `s` (spec/42_debouncer.md R151). -/
def fires (s : State) (b : BitVec 4) (k : Button) : Bool := allowed s k && pressed b k && getBit s.rel k

end Sys2Proof.Machine
end

