-- ==== Sys2Proof/Certificates/Slice0/Obligations.lean ====
section
/-! DEFINITION. The statements for the provers. -/

open Sys2Proof Sys2Proof.Machine

/-! ### Encoding and the step -/

/-- Words written out bit by bit from the tables of spec/30_encoding.md and spec/40_digit_codec.md, with
the model's own tag byte (log 8), decode to the rows they stand for. -/
def Obligations.WrittenWordsDecode : Prop :=
  decode [0b00000101, 0x01] = .ok (.enc5, []) ∧ decode [0b00001011, 0x01] = .ok (.encBlankAB 11, []) ∧
  decode [0b00000010, 0x02] = .ok (.slot2, []) ∧ decode [0b00000100, 0x02] = .ok (.update, []) ∧
  decode [0b00000110, 0x12] = .ok (.pollSuppress .save, []) ∧ decode [0b00000001, 0x21] = .ok (.actDec, []) ∧
  decode [0b00000101, 0x03] = .ok (.startRefused, []) ∧ decode [0b00000111, 0x04] = .ok (.tickAutostop, []) ∧
  decode [0b00000001, 0x05] = .ok (.accrue, []) ∧ decode [0b00000010, 0x06] = .ok (.relayOff, []) ∧
  decode [0b00000001, 0x07] = .ok (.reset, []) ∧
  decode [0, 0x09, 0x34, 0x12] = .ok (.bcdDec ⟨4, 3, 2, 1⟩, []) ∧
  decode [0b00001000, 0x02] = .error .vectorTooWide ∧ decode [0, 0x07] = .error .noRow ∧
  decode [0, 0x30] = .error .unknownSite ∧ decode [0] = .error .truncated

/-- Decoding an encoded operation gives it back, every operand at every value its row admits, and leaves
the bytes that follow. -/
def Obligations.DecodeEncodeAgree : Prop :=
  ∀ (i : Instr) (rest : List Byte), i.wellFormed = true → decode (encode i ++ rest) = .ok (i, rest)

/-- The other direction: a tagged word that decodes is the encoding of a well-formed operation. -/
def Obligations.DecodedWordIsItsEncoding : Prop :=
  ∀ (bs rest : List Byte) (i : Instr), tagged bs = true → decode bs = .ok (i, rest) →
    i.wellFormed = true ∧ bs = encode i ++ rest

/-- Format TV16 (R72): digit `i` at bits `[4i+3:4i]`, and packing an unpacked bus gives the bus. -/
def Obligations.PackingPlacesEachDigit : Prop :=
  (∀ (x : TimeValue) (i : Fin 4), (pack x).extractLsb' (4 * i.val) 4 = digitOf x i) ∧
  (∀ (tv : BitVec 16) (i : Fin 4), digitOf (unpack tv) i = tv.extractLsb' (4 * i.val) 4) ∧
  (∀ tv : BitVec 16, pack (unpack tv) = tv) ∧
  unpack 0x0010 = ⟨0, 1, 0, 0⟩ ∧ unpack 0x0020 = ⟨0, 2, 0, 0⟩ ∧ unpack 0x0000 = ⟨0, 0, 0, 0⟩

/-- A step of a legal configuration runs the operation the word at the step's head decodes to, and the
environment then presents the next port levels. -/
def Obligations.StepRunsTheDecodedOperation : Prop :=
  ∀ s : State, legalConfig s.cfg = true →
    (∃ i, decode (fetchBytes s) = .ok (i, []) ∧ i.wellFormed = true) ∧
    ∀ (i : Instr) (rest : List Byte), decode (fetchBytes s) = .ok (i, rest) →
      ∃ t, exec i s = .next t ∧ step s = .next (nextPorts t)

/-- A configuration outside R6 is refused, and no other state stops a step: the block has no fault
(R260, R263). -/
def Obligations.StepStopsOnlyOnIllegalConfiguration : Prop :=
  ∀ s : State,
    ((s.cfg.dwellMs < 1 ∨ 250 < s.cfg.dwellMs ∨ s.cfg.dwellCycles < 1) →
      step s = .refused .configuration ∧ clock s = .refused .configuration) ∧
    (1 ≤ s.cfg.dwellMs → s.cfg.dwellMs ≤ 250 → 1 ≤ s.cfg.dwellCycles →
      (∃ t, step s = .next t) ∧ ∃ t, clock s = .next t)

/-- Wherever a table word decodes to a row, placing it makes that row one of those the next phase step
runs; and the step is its inner rows run one after another through `exec`, from the state its phase is
entered in. The phase register, and the dwell timer and synchronizer (logs 4, 5), are set aside there:
PhaseAdvancesInOrder says the first. The rows of `rowsOf` besides are the BCD functions these use, which
ActionRowsWriteTheirRegisters and TickRowsWriteTheirRegisters tie to them. POLL_DISALLOWED of SS is left
out: the block never presents it, SS being allowed in both states (R154); log 9. -/
def Obligations.PlacedWordIsRunNext : Prop :=
  (∀ (s : State) (nbits w : Nat) (i : Instr), decodeTableWord nbits w = some i →
    (∀ p l, i ≠ .pollDisallowed .ss p l) → i ∈ rowsOf (s.withFetchWord nbits w)) ∧
  ∀ s : State, ∃ u v, exec (fetch s) s = .next u ∧
    (legalConfig s.cfg = true → step s = .next (nextPorts u)) ∧
    runRows (innerRows s) (enterPhase s) = .next v ∧
    { v with ph := u.ph, dwt := u.dwt, btnSync := u.btnSync } = u

/-! ### Digit codec -/

/-- Each row ENC_0 to ENC_9 drives `seg` with its pattern, written here by the segments lit in the order
g f e d c b a (R101, R103), and changes nothing else. -/
def Obligations.DigitRowsDriveTheirPatterns : Prop :=
  ∀ s : State,
    exec .enc0 s = .next { s with seg := 0b0111111 } ∧
    exec .enc1 s = .next { s with seg := 0b0000110 } ∧
    exec .enc2 s = .next { s with seg := 0b1011011 } ∧
    exec .enc3 s = .next { s with seg := 0b1001111 } ∧
    exec .enc4 s = .next { s with seg := 0b1100110 } ∧
    exec .enc5 s = .next { s with seg := 0b1101101 } ∧
    exec .enc6 s = .next { s with seg := if s.cfg.glyphs = .alt6 then 0b1111100 else 0b1111101 } ∧
    exec .enc7 s = .next { s with seg := if s.cfg.glyphs = .alt7 then 0b0100111 else 0b0000111 } ∧
    exec .enc8 s = .next { s with seg := 0b1111111 } ∧
    exec .enc9 s = .next { s with seg := if s.cfg.glyphs = .alt9 then 0b1100111 else 0b1101111 }

/-- The illegal codes 10 to 15 turn all segments off (R102), and nothing else changes. -/
def Obligations.IllegalDigitsShowBlank : Prop :=
  ∀ (d : Digit) (s : State),
    ((d = 10 ∨ d = 11) → decodeDigit d = .encBlankAB d ∧ exec (.encBlankAB d) s = .next { s with seg := 0b0000000 }) ∧
    (12 ≤ d.toNat → decodeDigit d = .encBlankCF d ∧ exec (.encBlankCF d) s = .next { s with seg := 0b0000000 })

/-- The codec is total (R105), and under every glyph setting a lit pattern tells its digit: on the legal
codes the patterns are pairwise distinct and none is blank (R101). -/
def Obligations.CodecIsTotalAndInjective : Prop :=
  ∀ s : State,
    (∀ d : Digit, exec (decodeDigit d) s = .next { s with seg := codec s.cfg.glyphs d }) ∧
    (∀ d e : Digit, d.toNat ≤ 9 → codec s.cfg.glyphs d = codec s.cfg.glyphs e → d = e) ∧
    (∀ d : Digit, codec s.cfg.glyphs d = 0 ↔ 10 ≤ d.toNat)

/-! ### Display multiplexer -/

/-- The four slot rows: one position enabled, the digit `src[3-i]` shown, `DWELL_MS` accrued while Active,
the strobe cleared, the phase advanced; no other register changes (R122, R125, R126). What the dwell
timer and the synchronizer hold after a phase step is the model's choice (logs 4, 5). -/
def Obligations.SlotRowsShowAccrueAdvance : Prop :=
  ∀ s : State,
    let src := if s.active then s.l else s.t
    let acc := if s.active then s.acc + BitVec.ofNat 16 s.cfg.dwellMs else s.acc
    let done := { s with acc := acc, saveStb := false, dwt := 0, btnSync := ⟨s.ports.btnN, s.ports.btnN⟩ }
    exec .slot0 s = .next { done with digEn := 0b0001, seg := codec s.cfg.glyphs src.d3, ph := 0b001 } ∧
    exec .slot1 s = .next { done with digEn := 0b0010, seg := codec s.cfg.glyphs src.d2, ph := 0b010 } ∧
    exec .slot2 s = .next { done with digEn := 0b0100, seg := codec s.cfg.glyphs src.d1, ph := 0b011 } ∧
    exec .slot3 s = .next { done with digEn := 0b1000, seg := codec s.cfg.glyphs src.d0, ph := 0b100 }

/-- A slot's phase step is its enable, then the DIGIT row of the digit shown, then the ACC1 row, then the
phase advance: the rows of the table run inside it (R122, R125, R126). What the dwell timer and the synchronizer
hold after it is the model's choice (logs 4, 5). -/
def Obligations.SlotRunsItsRows : Prop :=
  ∀ (s : State) (i : Fin 4), slotOf s.ph = some i → s.ports.rst = false →
    ∃ u v, exec (decodeDigit (shownDigit s i)) { s with digEn := onehot4 i, saveStb := false } = .next u ∧
      exec (decodeAccrual u.active) u = .next v ∧
      exec (fetch s) s = .next { v with
        ph := phaseAfterSlot i, dwt := 0, btnSync := ⟨s.ports.btnN, s.ports.btnN⟩ }

/-- The digit of slot `Si` is `src[3-i]`, the bits `[15-4i:12-4i]` of the packed source, and the codec takes
that code as it stands (R77); the source is `L` while Active, `T` while Inactive (R121). -/
def Obligations.SlotsReadTheReversedDigit : Prop :=
  ∀ (s : State) (i : Fin 4),
    let src := if s.active then s.l else s.t
    shownDigit s i = digitOf src (3 - i) ∧
    shownDigit s i = (pack src).extractLsb' (12 - 4 * i.val) 4 ∧
    (s.ports.rst = false → s.ph.toNat = i.val →
      (outputs s).digEn = 1#4 <<< i.val ∧
      (outputs s).seg = codec s.cfg.glyphs ((pack src).extractLsb' (12 - 4 * i.val) 4))

/-- The rows ACCRUE and NO_ACCRUE (R125), and their choice by `active` (R81). -/
def Obligations.AccrualRowsAddTheDwell : Prop :=
  ∀ s : State,
    (exec .accrue s = .next { s with acc := BitVec.ofNat 16 (s.acc.toNat + s.cfg.dwellMs) }) ∧
    (exec .noAccrue s = .next s) ∧
    (s.active = true → exec (decodeAccrual s.active) s =
      .next { s with acc := BitVec.ofNat 16 (s.acc.toNat + s.cfg.dwellMs) }) ∧
    (s.active = false → exec (decodeAccrual s.active) s = .next s)

/-- An illegal phase is one dark step, and at clock level one dark cycle, to `S0`, with `dwt` at 0, that
changes no other register (R127). What the synchronizer holds after a phase step is the model's choice
(log 5), at clock level it shifts (R156); that the save strobe keeps its level is the model's reading
(log 13). -/
def Obligations.IllegalPhasesRecover : Prop :=
  ∀ (s : State) (ph : BitVec 3),
    let done := { s with seg := 0, digEn := 0, ph := 0b000, dwt := 0 }
    let held : SyncStages := ⟨s.ports.btnN, s.ports.btnN⟩
    exec .phIllegal5 s = .next { done with btnSync := held } ∧
    exec (.phIllegal67 ph) s = .next { done with btnSync := held } ∧
    (s.ports.rst = false → 5 ≤ s.ph.toNat →
      (legalConfig s.cfg = true → step s = .next (nextPorts { done with btnSync := held })) ∧
      (outputs s).seg = 0 ∧ (outputs s).digEn = 0 ∧
      clockEdge s = { done with btnSync := ⟨s.ports.btnN, s.btnSync.stage1⟩ })

/-- The phase advances `S0, S1, S2, S3, UPD, S0`, one step a phase, and `rst` overrides every row and sets
`S0` (R126). At clock level `dwt` counts a slot's cycles up, and at `dwt = DWELL_CYCLES - 1` the slot ends
with `dwt` at 0, the accrual and the advance, so that a slot lasts exactly `DWELL_CYCLES` cycles and `UPD`
one (R124); within the timer's range. -/
def Obligations.PhaseAdvancesInOrder : Prop :=
  (∀ s t : State, step s = .next t →
    (s.ports.rst = true → t.ph = 0b000) ∧
    (s.ports.rst = false →
      (s.ph = 0b000 → t.ph = 0b001) ∧ (s.ph = 0b001 → t.ph = 0b010) ∧ (s.ph = 0b010 → t.ph = 0b011) ∧
      (s.ph = 0b011 → t.ph = 0b100) ∧ (s.ph = 0b100 → t.ph = 0b000))) ∧
  (∀ s t : State, clock s = .next t →
    (s.ports.rst = true → t.ph = 0b000) ∧
    (s.ports.rst = false →
      (s.ph.toNat < 4 → s.dwt + 1 < s.cfg.dwellCycles →
        t.ph = s.ph ∧ t.dwt = s.dwt + 1 ∧ t.acc = s.acc) ∧
      (s.ph.toNat < 4 → s.dwt + 1 = s.cfg.dwellCycles →
        t.ph = s.ph + 1 ∧ t.dwt = 0 ∧
        t.acc = if s.active then s.acc + BitVec.ofNat 16 s.cfg.dwellMs else s.acc) ∧
      (s.ph = 0b100 → s.dwt = 0 → t.ph = 0b000 ∧ t.dwt = 0))) ∧
  ∀ (s : State) (ps : List Ports), legalConfig s.cfg = true → s.ph.toNat < 4 → s.dwt = 0 →
    (∀ p ∈ ps, p.rst = false) → ps.length ≤ s.cfg.dwellCycles →
    (clockRun ps s).ph = if ps.length = s.cfg.dwellCycles then s.ph + 1 else s.ph

/-- During every phase the lines are those of the output decode of R122: in a slot one enable and the
pattern of `src[3-i]`, else and under `rst` all off. That the fields hold the levels of the phase last executed is the model's
choice (log 6). -/
def Obligations.LinesFollowTheOutputDecode : Prop :=
  ∀ s t : State, step s = .next t →
    t.seg = (outputs s).seg ∧ t.digEn = (outputs s).digEn ∧
    ((s.ports.rst = true ∨ 4 ≤ s.ph.toNat) → t.digEn = 0b0000 ∧ t.seg = 0b0000000) ∧
    (s.ports.rst = false → ∀ i : Fin 4, s.ph.toNat = i.val →
      t.digEn = 1#4 <<< i.val ∧ t.seg = codec s.cfg.glyphs (digitOf (source s) (3 - i)))

/-- In four steps from `S0` without reset the display shows the frame of the state the pass began in:
position `i` shows `src[3-i]`, `src` as it stood at the pass's start (R121, R240). -/
def Obligations.FrameShowsTheEntrySource : Prop :=
  ∀ (s : State) (p1 p2 p3 : Ports) (rest : List Ports), legalConfig s.cfg = true → s.ph = 0b000 →
    s.ports.rst = false → p1.rst = false → p2.rst = false → p3.rst = false →
    s.script = p1 :: p2 :: p3 :: rest → ∀ k : Fin 4,
      ∃ t, Host.Core.run Sys2Proof.core (k.val + 1) s = .next t ∧ (frame s)[k.val]? = some (t.digEn, t.seg)

/-- Physical pins: each line XOR its polarity parameter; and no rule of the logical model reads the three:
with other polarities a step and a clock edge do the same, and the logical outputs are the same (R131). -/
def Obligations.PinsApplyThePolarity : Prop :=
  ∀ s : State,
    (∀ j, j < 7 → (segPins s).getLsbD j = ((outputs s).seg.getLsbD j ^^ s.cfg.segActiveLow)) ∧
    (∀ j, j < 4 → (digPins s).getLsbD j = ((outputs s).digEn.getLsbD j ^^ s.cfg.digActiveLow)) ∧
    relayPin s = ((outputs s).relay ^^ s.cfg.relayActiveLow) ∧
    ∀ a b c : Bool, outputs (withPolarity a b c s) = outputs s ∧
      ∀ t, (step s = .next t → step (withPolarity a b c s) = .next (withPolarity a b c t)) ∧
        (clock s = .next t → clock (withPolarity a b c s) = .next (withPolarity a b c t))

/-! ### Debouncer -/

/-- The four POLL rows of any button: `fire[k]` and `rel[k]` take the row's values, and nothing else
changes (R151, R153). -/
def Obligations.PollRowsWriteFireAndLatch : Prop :=
  ∀ (s : State) (k : Button) (p l : Bool), ∃ t1 t2 t3,
    exec (.pollFire k) s = .next t1 ∧ exec (.pollSuppress k) s = .next t2 ∧
    exec (.pollIdle k l) s = .next t3 ∧ exec (.pollDisallowed k p l) s = .next t3 ∧
    getBit t1.fire k = true ∧ getBit t1.rel k = false ∧ getBit t2.fire k = false ∧ getBit t2.rel k = false ∧
    getBit t3.fire k = false ∧ getBit t3.rel k = true ∧
    (∀ t ∈ [t1, t2, t3], { t with fire := s.fire, rel := s.rel } = s ∧
      ∀ j, j ≠ k → getBit t.fire j = getBit s.fire j ∧ getBit t.rel j = getBit s.rel j)

/-- The poll of `UPD` runs the row its vector `allowed pressed latch` decodes to; the four cases, each with
its row, its `fire` and its new latch (R78). -/
def Obligations.PollRunsTheRowOfItsVector : Prop :=
  ∀ (s : State) (b : BitVec 4) (k : Button),
    let v := pollVector b k s
    let t := pollButton b k s
    (v.getLsbD 2 = allowed s k ∧ v.getLsbD 1 = pressed b k ∧ v.getLsbD 0 = getBit s.rel k) ∧
    exec (decodePoll k v) s = .next t ∧
    (allowed s k = true → pressed b k = true → getBit s.rel k = true →
      decodePoll k v = .pollFire k ∧ getBit t.fire k = true ∧ getBit t.rel k = false) ∧
    (allowed s k = true → pressed b k = true → getBit s.rel k = false →
      decodePoll k v = .pollSuppress k ∧ getBit t.fire k = false ∧ getBit t.rel k = false) ∧
    (allowed s k = true → pressed b k = false →
      decodePoll k v = .pollIdle k (getBit s.rel k) ∧ getBit t.fire k = false ∧ getBit t.rel k = true) ∧
    (allowed s k = false → decodePoll k v = .pollDisallowed k (pressed b k) (getBit s.rel k) ∧
      getBit t.fire k = false ∧ getBit t.rel k = true)

/-- A button allowed in every pass of a press and held over any number of passes fires at the first sample
only, if its latch was set; after one released sample a held press fires once more whatever the latch
was (R157). -/
def Obligations.HeldPressFiresOnce : Prop :=
  ∀ (s : State) (k : Button) (b : BitVec 4) (bs : List (BitVec 4)),
    (∀ c ∈ bs, pressed c k = true) → bs ≠ [] →
    (AllowedThroughout k bs s → getBit s.rel k = true →
      passFires k bs s = true :: List.replicate (bs.length - 1) false) ∧
    (AllowedThroughout k (b :: bs) s → pressed b k = false →
      passFires k (b :: bs) s = false :: true :: List.replicate (bs.length - 1) false)

/-- A press of INC, DEC or SAVE that is held while the countdown ends fires at the first sample after
(R158); and any button held through reset fires in the first pass (R159, R284). -/
def Obligations.HeldPressFiresAfterStopAndReset : Prop :=
  (∀ (s : State) (b c : BitVec 4) (k : Button), k ≠ .ss → s.active = true → pressed b k = true →
    (pass b s).active = false → pressed c k = true →
    getBit (pass b s).fire k = false ∧ getBit (pass c (pass b s)).fire k = true) ∧
  ∀ (s : State) (b : BitVec 4) (k : Button), pressed b k = true →
    ∃ r, exec .reset s = .next r ∧ getBit (pass b r).fire k = true

/-- Outside `UPD` the button levels have no effect: only what the synchronizer holds differs (R155). -/
def Obligations.ButtonsMatterInUpdateOnly : Prop :=
  ∀ (s t : State) (b : BitVec 4), (s.ph ≠ 0b100 ∨ s.ports.rst = true) → step s = .next t →
    ∃ u, step { s with ports := { s.ports with btnN := b } } = .next u ∧ { u with btnSync := t.btnSync } = t

/-! ### BCD counter -/

/-- BCD_INC and BCD_DEC on a legal value: the value spelt goes up or down by one modulo 10000, the digits
stay legal, no draw is taken and only the result bus changes; ISZERO tests the value 0 (R170 to R174). -/
def Obligations.BcdRowsCountModTenThousand : Prop :=
  ∀ (s : State) (x : TimeValue), legalTime x = true →
    (∃ y, exec (.bcdInc x) s = .next { s with bcdOut := y } ∧ legalTime y = true ∧
      timeVal y = (timeVal x + 1) % 10000) ∧
    (∃ y, exec (.bcdDec x) s = .next { s with bcdOut := y } ∧ legalTime y = true ∧
      timeVal y = (timeVal x + 9999) % 10000) ∧
    (isZero x = true ↔ timeVal x = 0)

/-- The inverse law, wrap points included (R175), and ten thousand increments of a legal value give it back
(R174); under both treatments of illegal digits. -/
def Obligations.IncrementAndDecrementInvert : Prop :=
  ∀ (m : IllegalDigit) (f g x : TimeValue),
    (legalTime x = true → decTime m g (incTime m f x) = x ∧ incTime m g (decTime m f x) = x ∧
      (incTime m f)^[10000] x = x) ∧
    incTime m f ⟨9, 9, 9, 9⟩ = ⟨0, 0, 0, 0⟩ ∧ decTime m f ⟨0, 0, 0, 0⟩ = ⟨9, 9, 9, 9⟩

/-- A carry that reaches a code 10 to 15 at digit `j` (R176): the digits below are 0; under LITERAL digit
`j` goes up by one modulo 16 and the rest is copied; under DRAW digit `j` and all above are the free
value's. A carry that stops lower copies every digit above, legal or not.
With `j = 0` this is every time value: the row always completes, and writes the result bus and the draw
counter only. -/
def Obligations.IncrementMeetsAnIllegalDigit : Prop :=
  ∀ (s : State) (x : TimeValue) (j : Fin 4), (∀ i < j, (digitOf x i).toNat = 9) →
    ∃ t, exec (.bcdInc x) s = .next t ∧ { t with bcdOut := s.bcdOut, draws := s.draws } = s ∧
      (∀ i < j, digitOf t.bcdOut i = 0) ∧
      (10 ≤ (digitOf x j).toNat → s.cfg.illegalDigit = .literal →
        digitOf t.bcdOut j = digitOf x j + 1 ∧ (∀ i > j, digitOf t.bcdOut i = digitOf x i) ∧ t.draws = s.draws) ∧
      (10 ≤ (digitOf x j).toNat → s.cfg.illegalDigit = .draw →
        (∀ i ≥ j, digitOf t.bcdOut i = digitOf (Config.freeDigits s.draws) i) ∧ t.draws = s.draws + 1) ∧
      ((digitOf x j).toNat < 9 →
        digitOf t.bcdOut j = digitOf x j + 1 ∧ (∀ i > j, digitOf t.bcdOut i = digitOf x i) ∧ t.draws = s.draws)

/-- The same of a borrow (R176): the digits below are 9, and LITERAL takes one off. -/
def Obligations.DecrementMeetsAnIllegalDigit : Prop :=
  ∀ (s : State) (x : TimeValue) (j : Fin 4), (∀ i < j, (digitOf x i).toNat = 0) →
    ∃ t, exec (.bcdDec x) s = .next t ∧ { t with bcdOut := s.bcdOut, draws := s.draws } = s ∧
      (∀ i < j, digitOf t.bcdOut i = 9) ∧
      (10 ≤ (digitOf x j).toNat → s.cfg.illegalDigit = .literal →
        digitOf t.bcdOut j = digitOf x j - 1 ∧ (∀ i > j, digitOf t.bcdOut i = digitOf x i) ∧ t.draws = s.draws) ∧
      (10 ≤ (digitOf x j).toNat → s.cfg.illegalDigit = .draw →
        (∀ i ≥ j, digitOf t.bcdOut i = digitOf (Config.freeDigits s.draws) i) ∧ t.draws = s.draws + 1) ∧
      (0 < (digitOf x j).toNat → (digitOf x j).toNat ≤ 9 →
        digitOf t.bcdOut j = digitOf x j - 1 ∧ (∀ i > j, digitOf t.bcdOut i = digitOf x i) ∧ t.draws = s.draws)

/-- ISZERO is exact for every 16-bit value, illegal codes included: 1 if and only if all four digits, that is
the packed value, are zero; nothing else changes; and it gives the `zT` bit of SS3 and the `zL'` bit of
TICK3 (R173). -/
def Obligations.ZeroTestIsExact : Prop :=
  ∀ (s : State) (x : TimeValue),
    exec (.bcdIsZero x) s = .next { s with bcdZero := decide (pack x = 0x0000) } ∧
    (isZero x = true ↔ ∀ i, digitOf x i = 0) ∧ (isZero x = true ↔ pack x = 0x0000) ∧
    (ssVector s).getLsbD 0 = isZero s.t ∧ (tickVector s).getLsbD 0 = isZero (decIn s s.l)

/-! ### Countdown state machine -/

/-- The SS3 rows (R201 to R203, and `none` of R79). -/
def Obligations.DispatchRowsWriteTheirRegisters : Prop :=
  ∀ (s : State) (a z : Bool),
    exec .start s = .next { s with l := s.t, acc := 0, active := true } ∧
    exec .startRefused s = .next s ∧
    exec (.stop z) s = .next { s with active := false } ∧
    exec (.ssNone a z) s = .next s

/-- The dispatch of `UPD`, which follows the polls and actions, runs the row its vector `fire[3] active zT`
decodes to, `zT` being ISZERO of `T` at that point; the four cases, each with its row and effect (R79). -/
def Obligations.DispatchRunsTheRowOfItsVector : Prop :=
  (∀ s : State, exec .update s = .next (endPhase { relaySync (tick (dispatch
    (pollAll s.ports.btnN (enterUpdate s)))) with ph := 0b000 })) ∧
  ∀ s : State,
    let v := ssVector s
    let t := dispatch s
    (v.getLsbD 2 = getBit s.fire .ss ∧ v.getLsbD 1 = s.active ∧ v.getLsbD 0 = isZero s.t) ∧
    (∃ u, exec (.bcdIsZero s.t) s = .next u ∧ exec (decodeSs v) u = .next t) ∧
    (getBit s.fire .ss = true → s.active = false → isZero s.t = false →
      decodeSs v = .start ∧ t.l = s.t ∧ t.acc = 0 ∧ t.active = true) ∧
    (getBit s.fire .ss = true → s.active = false → isZero s.t = true →
      decodeSs v = .startRefused ∧ t.l = s.l ∧ t.acc = s.acc ∧ t.active = false) ∧
    (getBit s.fire .ss = true → s.active = true →
      decodeSs v = .stop (isZero s.t) ∧ t.l = s.l ∧ t.acc = s.acc ∧ t.active = false) ∧
    (getBit s.fire .ss = false →
      decodeSs v = .ssNone s.active (isZero s.t) ∧ t.l = s.l ∧ t.acc = s.acc ∧ t.active = s.active)

/-- The TICK3 rows (R204, R205) on every state: `L` takes DEC(L), `acc` loses 1000, AUTOSTOP clears
`active`; the other two change nothing. What a tick leaves on the counter's result lines and in the draw
counter is the model's (logs 7, 11). -/
def Obligations.TickRowsWriteTheirRegisters : Prop :=
  ∀ (s : State) (g z : Bool), ∃ y n,
    exec (.bcdDec s.l) s = .next { s with bcdOut := y, draws := n } ∧
    exec .tickContinue s = .next { s with
      l := y, acc := s.acc - 1000, bcdOut := y, bcdZero := isZero y, draws := n } ∧
    exec .tickAutostop s = .next { s with
      l := y, acc := s.acc - 1000, active := false, bcdOut := y, bcdZero := isZero y, draws := n } ∧
    exec (.tickWait z) s = .next s ∧ exec (.tickIdle g z) s = .next s

/-- The tick of `UPD`, which follows the dispatch, runs the row its vector `active ge zL'` decodes to; the
four cases, each with its row and effect (R80). -/
def Obligations.TickRunsTheRowOfItsVector : Prop :=
  (∀ s : State, exec .update s = .next (endPhase { relaySync (tick (dispatch
    (pollAll s.ports.btnN (enterUpdate s)))) with ph := 0b000 })) ∧
  ∀ s : State,
    let v := tickVector s
    let t := tick s
    let g := decide (1000 ≤ s.acc.toNat)
    let z := isZero (decIn s s.l)
    (v.getLsbD 2 = s.active ∧ v.getLsbD 1 = g ∧ v.getLsbD 0 = z) ∧
    exec (decodeTick v) s = .next t ∧
    (s.active = true → g = true → z = false → decodeTick v = .tickContinue ∧
      t.l = decIn s s.l ∧ t.acc.toNat = s.acc.toNat - 1000 ∧ t.active = true) ∧
    (s.active = true → g = true → z = true → decodeTick v = .tickAutostop ∧
      t.l = decIn s s.l ∧ t.acc.toNat = s.acc.toNat - 1000 ∧ t.active = false) ∧
    (s.active = true → g = false → decodeTick v = .tickWait z ∧ t = s) ∧
    (s.active = false → decodeTick v = .tickIdle g z ∧ t = s)

/-- A STOP takes effect whatever `acc` is, and prevents the tick of its pass: `L`, `acc` and `T` keep
their values, the relay goes off, and the next frame's source is `T` (R203, R209). -/
def Obligations.StopPreventsThePendingTick : Prop :=
  ∀ s : State, s.active = true → pressed s.ports.btnN .ss = true → getBit s.rel .ss = true →
    ∃ t, exec .update s = .next t ∧ t.active = false ∧ t.l = s.l ∧ t.acc = s.acc ∧ t.t = s.t ∧
      t.relay = false ∧ source t = t.t

/-- A START press while Inactive is judged on `T` after this pass's edits: it starts with that `T`, `acc`
0 and the relay on, and no tick in the same pass; if that `T` is zero it is refused, the press being
used up (R201, R202, R209, R243). -/
def Obligations.StartIsJudgedAfterEdits : Prop :=
  ∀ s : State, s.active = false → pressed s.ports.btnN .ss = true → getBit s.rel .ss = true →
    ∃ t, exec .update s = .next t ∧ getBit t.rel .ss = false ∧
      (isZero t.t = false → t.active = true ∧ t.l = t.t ∧ t.acc = 0 ∧ t.relay = true) ∧
      (isZero t.t = true → t.active = false ∧ t.l = s.l ∧ t.acc = s.acc ∧ t.relay = s.relay)

/-- Pressing INC, DEC or SAVE while Active has no effect on the configured timeout, nothing is saved, and
the three latches are set (R153, R208). -/
def Obligations.EditsWhileActiveDoNothing : Prop :=
  ∀ s : State, s.active = true → ∃ t, exec .update s = .next t ∧ t.t = s.t ∧ t.saveStb = false ∧
    t.saveData = s.saveData ∧
    (∀ k, k ≠ .ss → getBit t.fire k = false ∧ getBit t.rel k = true) ∧
    (∀ b : BitVec 4, getBit b .ss = getBit s.ports.btnN .ss →
      ∃ u, exec .update { s with ports := { s.ports with btnN := b } } = .next u ∧
        u.l = t.l ∧ u.acc = t.acc ∧ u.active = t.active)

/-- What a step can do to `acc`: nothing; add `DWELL_MS` in a slot while Active; clear it at START or
reset; take 1000 off at a tick (R207). -/
def Obligations.AccumulatorLifecycle : Prop :=
  ∀ s t : State, step s = .next t →
    t.acc = s.acc ∨
    (s.ports.rst = false ∧ s.ph.toNat < 4 ∧ s.active = true ∧ t.acc = s.acc + BitVec.ofNat 16 s.cfg.dwellMs) ∨
    (t.acc = 0 ∧ (s.ports.rst = true ∨ (s.ph = 0b100 ∧ s.active = false ∧ t.active = true))) ∨
    (s.ports.rst = false ∧ s.ph = 0b100 ∧ s.active = true ∧ 1000 ≤ s.acc.toNat ∧ t.acc = s.acc - 1000)

/-- `active` rises only by a START in `UPD`, and falls only by reset, by a STOP, or by a tick that makes
`L` zero (R29, R265). -/
def Obligations.ModeChangesOnlyByStartStopReset : Prop :=
  ∀ s t : State, step s = .next t →
    (s.active = false → t.active = true → s.ports.rst = false ∧ s.ph = 0b100 ∧
      fires s s.ports.btnN .ss = true ∧ isZero t.t = false ∧ t.l = t.t) ∧
    (s.active = true → t.active = false → s.ports.rst = true ∨ (s.ph = 0b100 ∧
      (fires s s.ports.btnN .ss = true ∨ (1000 ≤ s.acc.toNat ∧ isZero t.l = true))))

/-- The decrement schedule (R211): from an Active state with `acc = 0`, as a START leaves it, after `n`
passes in which SS does not fire the ticks taken are `floor(4*DWELL_MS*n/1000)`, as long as these are
fewer than `val(L)`. -/
def Obligations.DecrementSchedule : Prop :=
  ∀ (s : State) (bs : List (BitVec 4)), legalConfig s.cfg = true → s.active = true → s.acc = 0 →
    legalTime s.l = true → silent (getBit s.rel .ss) (bs.map fun b => pressed b .ss) = true →
    4 * s.cfg.dwellMs * bs.length / 1000 < timeVal s.l →
    (passes bs s).active = true ∧
    timeVal (passes bs s).l = timeVal s.l - 4 * s.cfg.dwellMs * bs.length / 1000 ∧
    (passes bs s).acc.toNat = 4 * s.cfg.dwellMs * bs.length % 1000

/-- The automatic stop (R211): it comes in the pass `ceil(250*V/DWELL_MS)` after the START, `V` being the
value started with; `L` is then zero and the relay off, and in every earlier pass the countdown runs. -/
def Obligations.AutoStopComesOnSchedule : Prop :=
  ∀ (s : State) (bs : List (BitVec 4)), legalConfig s.cfg = true → s.active = true → s.relay = true →
    s.acc = 0 → legalTime s.l = true → isZero s.l = false →
    silent (getBit s.rel .ss) (bs.map fun b => pressed b .ss) = true →
    bs.length = (250 * timeVal s.l + s.cfg.dwellMs - 1) / s.cfg.dwellMs →
    (passes bs s).active = false ∧ (passes bs s).l = zeroTime ∧ (passes bs s).relay = false ∧
    ∀ n, n < bs.length → (passes (bs.take n) s).active = true

/-- After a stop `L` and `acc` are observable nowhere: replacing them while Inactive changes no other part
of the next state, until a START or reset overwrites both (R35, R207). -/
def Obligations.StoppedCountdownIsUnobservable : Prop :=
  ∀ (s t : State) (l : TimeValue) (acc : BitVec 16), s.active = false → step s = .next t →
    outputs { s with l := l, acc := acc } = outputs s ∧
    ∃ u, step { s with l := l, acc := acc } = .next u ∧
      (u = t ∨ (t.active = false ∧ u = { t with l := l, acc := acc }))

/-! ### Pass sequencer -/

/-- The FIRE rows (R233 to R235): `T` takes INC(T) or DEC(T) as BCD_INC or BCD_DEC gives it, or `T` is
saved with the strobe; no other register changes. -/
def Obligations.ActionRowsWriteTheirRegisters : Prop :=
  ∀ s : State,
    (∃ y n, exec (.bcdInc s.t) s = .next { s with bcdOut := y, draws := n } ∧
      exec .actInc s = .next { s with t := y, bcdOut := y, draws := n }) ∧
    (∃ y n, exec (.bcdDec s.t) s = .next { s with bcdOut := y, draws := n } ∧
      exec .actDec s = .next { s with t := y, bcdOut := y, draws := n }) ∧
    exec .actSave s = .next { s with saveData := pack s.t, saveStb := true }

/-- After its poll a button's action is the FIRE row its `fire` bit selects; SAVE clears the strobe when
it does not fire (R231, R235), and SS has no action of its own (R236). -/
def Obligations.ActionRunsTheRowOfItsFire : Prop :=
  ∀ (s : State) (k : Button),
    (∀ i, decodeFire k (getBit s.fire k) = some i → exec i s = .next (fireAction k s)) ∧
    (decodeFire k (getBit s.fire k) = none →
      fireAction k s = if k = .save then { s with saveStb := false } else s) ∧
    (decodeFire k (getBit s.fire k) = none ↔ (getBit s.fire k = false ∨ k = .ss))

/-- The REL2 rows, and the relay sync, which runs the row of `a0 active`: 1 after a rise, 0 after a fall, no
write otherwise (R81, R238). -/
def Obligations.RelayRowsWriteOnChangeOnly : Prop :=
  ∀ s : State,
    exec .relayOn s = .next { s with relay := true } ∧ exec .relayOff s = .next { s with relay := false } ∧
    exec .relayHold0 s = .next s ∧ exec .relayHold1 s = .next s ∧
    exec (decodeRelay (relayVector s)) s = .next (relaySync s) ∧
    (s.a0 = false → s.active = true → relaySync s = { s with relay := true }) ∧
    (s.a0 = true → s.active = false → relaySync s = { s with relay := false }) ∧
    (s.a0 = s.active → relaySync s = s)

/-- UPDATE in closed form, on every state and every sample (R231): the fires of the four polls and the
latches; `T` after INC then DEC; the save of that `T`; STOP, START, a tick or none; the relay on a
change; the display dark; then `S0`. A digit code 10 to 15 in the chain is covered by the free values
`f0 f1 f2` (R176). The configuration and the environment keep their values. -/
def Obligations.UpdateComputesItsPass : Prop :=
  ∀ s : State,
    let f := fires s s.ports.btnN
    let m := s.cfg.illegalDigit
    ∃ (t : State) (f0 f1 f2 t1 t2 : TimeValue), exec .update s = .next t ∧
      t1 = (if f .inc then incTime m f0 s.t else s.t) ∧
      t2 = (if f .dec then decTime m f1 t1 else t1) ∧ t.t = t2 ∧
      (∀ k, getBit t.fire k = f k) ∧
      (∀ k, getBit t.rel k = (!allowed s k || !pressed s.ports.btnN k)) ∧
      t.saveStb = f .save ∧ t.saveData = (if f .save then pack t2 else s.saveData) ∧
      (if f .ss && s.active then t.active = false ∧ t.l = s.l ∧ t.acc = s.acc
       else if f .ss && !s.active && !isZero t2 then t.active = true ∧ t.l = t2 ∧ t.acc = 0
       else if s.active && decide (1000 ≤ s.acc.toNat) then
         t.l = decTime m f2 s.l ∧ t.acc = s.acc - 1000 ∧ t.active = !isZero t.l
       else t.active = s.active ∧ t.l = s.l ∧ t.acc = s.acc) ∧
      t.relay = (if t.active = s.active then s.relay else t.active) ∧
      t.a0 = s.active ∧ t.digEn = 0 ∧ t.seg = 0 ∧ t.ph = 0b000 ∧
      t.cfg = s.cfg ∧ t.ports = s.ports ∧ t.script = s.script ∧ t.portDraws = s.portDraws

/-- `UPD` runs its stages in the order of R231, each on what the one before left: the polls and actions
of INC, DEC, SAVE, SS, the dispatch, the tick, the relay; as rows of the table. What the dwell timer and the
synchronizer hold after it is the model's choice (logs 4, 5). -/
def Obligations.UpdateRunsItsRowsInOrder : Prop :=
  ∀ (s : State) (b : BitVec 4), s.ports.btnN = b →
    ∃ s0 s1 s2 s3 s4 s5 s6 s7 : State,
      s0 = { s with seg := 0, digEn := 0, a0 := s.active } ∧
      s1 = fireAction .inc (pollButton b .inc s0) ∧ s2 = fireAction .dec (pollButton b .dec s1) ∧
      s3 = fireAction .save (pollButton b .save s2) ∧ s4 = fireAction .ss (pollButton b .ss s3) ∧
      (∃ u, exec (.bcdIsZero s4.t) s4 = .next u ∧ exec (decodeSs (ssVector s4)) u = .next s5) ∧
      exec (decodeTick (tickVector s5)) s5 = .next s6 ∧
      exec (decodeRelay (relayVector s6)) s6 = .next s7 ∧
      exec .update s = .next { s7 with ph := 0b000, dwt := 0, btnSync := ⟨b, b⟩ }

/-- Presses in one pass take effect together in the order of R231 (R242, R243), from an Inactive state with
all latches set and a legal `T`. -/
def Obligations.SimultaneousPresses : Prop :=
  ∀ s : State, s.active = false → s.rel = 0b1111 → legalTime s.t = true →
    (s.ports.btnN = 0xC → ∃ t, exec .update s = .next t ∧ t.t = s.t ∧ t.active = false) ∧
    (s.ports.btnN = 0xA → ∃ t, exec .update s = .next t ∧ timeVal t.t = (timeVal s.t + 1) % 10000 ∧
      t.saveStb = true ∧ t.saveData = pack t.t) ∧
    (s.ports.btnN = 0x9 → ∃ t, exec .update s = .next t ∧ timeVal t.t = (timeVal s.t + 9999) % 10000 ∧
      t.saveStb = true ∧ t.saveData = pack t.t) ∧
    (s.ports.btnN = 0x6 → s.t = ⟨0, 0, 0, 0⟩ → ∃ t, exec .update s = .next t ∧
      t.t = ⟨1, 0, 0, 0⟩ ∧ t.active = true ∧ t.l = ⟨1, 0, 0, 0⟩) ∧
    (s.ports.btnN = 0x5 → s.t = ⟨1, 0, 0, 0⟩ → ∃ t, exec .update s = .next t ∧
      t.t = ⟨0, 0, 0, 0⟩ ∧ t.active = false ∧ t.l = s.l) ∧
    (s.ports.btnN = 0x5 → s.t = ⟨0, 0, 0, 0⟩ → ∃ t, exec .update s = .next t ∧
      t.t = ⟨9, 9, 9, 9⟩ ∧ t.active = true ∧ t.l = ⟨9, 9, 9, 9⟩) ∧
    (s.ports.btnN = 0x3 → ∃ t, exec .update s = .next t ∧ t.t = s.t ∧ t.saveStb = true ∧
      t.saveData = pack s.t ∧ (t.active = true ↔ isZero s.t = false))

/-- A save is made only by a debounced SAVE press in an Inactive `UPD`, and the strobe is up for the next
step only (R52, R235); from a legal phase. -/
def Obligations.SavesOnlyOnADebouncedPress : Prop :=
  ∀ s t : State, s.ph.toNat ≤ 4 → step s = .next t →
    (t.saveStb = true ↔ s.ports.rst = false ∧ s.ph = 0b100 ∧ s.active = false ∧
      pressed s.ports.btnN .save = true ∧ getBit s.rel .save = true) ∧
    (t.saveStb = true → t.saveData = pack t.t) ∧
    (t.saveStb = false → s.ports.rst = false → t.saveData = s.saveData)

/-- A step that is neither `UPD` nor reset writes no register but `ph`, `dwt`, `acc`, the strobe and the
synchronizer (R23, R24, R29, R30, R239). -/
def Obligations.OnlyUpdateWritesTheOtherRegisters : Prop :=
  ∀ s t : State, s.ports.rst = false → s.ph ≠ 0b100 → step s = .next t →
    { t with ph := s.ph, dwt := s.dwt, acc := s.acc, saveStb := s.saveStb, btnSync := s.btnSync,
             seg := s.seg, digEn := s.digEn, ports := s.ports, script := s.script, portDraws := s.portDraws } = s

/-- The pass function (R240): five steps from `S0` without reset are one `PASS(s, b)`, `b` the sample of
the fifth, the `UPD`. What the dwell timer and the synchronizer hold after it, in `pass` as after the step,
is the model's choice (logs 4, 5), and so is the script that presents the samples (log 3). -/
def Obligations.FiveStepsAreOnePass : Prop :=
  ∀ (s : State) (p1 p2 p3 p4 : Ports) (rest : List Ports), legalConfig s.cfg = true → s.ph = 0b000 →
    s.ports.rst = false → p1.rst = false → p2.rst = false → p3.rst = false → p4.rst = false →
    s.script = p1 :: p2 :: p3 :: p4 :: rest →
    Host.Core.run Sys2Proof.core 5 s = .next (nextPorts { pass p4.btnN s with ports := p4, script := rest })

/-- The output lines and combinational signals carry nothing from step to step: set to any levels they
change no register of the next state (R28, R33). -/
def Obligations.SignalsCarryNothing : Prop :=
  ∀ (s t : State) (seg : BitVec 7) (digEn fire : BitVec 4) (a0 : Bool) (y : TimeValue) (z : Bool),
    step s = .next t →
    ∃ u, step (withSignals seg digEn fire a0 y z s) = .next u ∧ registers u = registers t

/-! ### Reset and invariants -/

/-- RESET: every register takes its reset value whatever the state, `T` the value on `init_timeout`; with
`rst` asserted it is what a step and a clock edge do, from every phase (R41). While `rst` is asserted the
lines are dark, the relay is off and the strobe is down (in the cycle before the first edge too), and a reset of
any length gives the state of its last edge alone (R280). The configuration stays, "fixed at build
time" (R31). -/
def Obligations.ResetSetsEveryRegister : Prop :=
  (∀ s : State, ∃ t, exec .reset s = .next t ∧
    t.t = unpack s.ports.initTimeout ∧ t.l = ⟨0, 0, 0, 0⟩ ∧ t.acc = 0 ∧ t.active = false ∧ t.rel = 0b1111 ∧
    t.ph = 0b000 ∧ t.dwt = 0 ∧ t.relay = false ∧ t.saveStb = false ∧ t.saveData = 0x0000 ∧
    t.btnSync = ⟨0b1111, 0b1111⟩ ∧ t.seg = 0b0000000 ∧ t.digEn = 0b0000 ∧ t.cfg = s.cfg ∧
    (s.ports.rst = true → (outputs s).seg = 0b0000000 ∧ (outputs s).digEn = 0b0000 ∧
      (outputs s).relay = false ∧ (outputs s).saveStb = false ∧ clockEdge s = t) ∧
    (s.ports.rst = true → legalConfig s.cfg = true →
      step s = .next (nextPorts t) ∧ clock s = .next (nextPorts t))) ∧
  ∀ (s : State) (ps : List Ports) (p : Ports), p.rst = true → (∀ q ∈ ps, q.rst = true) →
    clockRun (ps ++ [p]) s = clockRun [p] s

/-- The reset state holds the values R41 gives, and both invariants hold in it. The port levels and the
configuration it names are the model's choice (logs 1, 2, 3). -/
def Obligations.ResetStateIsSafe : Prop :=
  State.reset.t = unpack State.reset.ports.initTimeout ∧ State.reset.l = ⟨0, 0, 0, 0⟩ ∧ State.reset.acc = 0 ∧
  State.reset.active = false ∧ State.reset.rel = 0b1111 ∧ State.reset.ph = 0b000 ∧ State.reset.dwt = 0 ∧
  State.reset.relay = false ∧ State.reset.saveStb = false ∧ State.reset.saveData = 0x0000 ∧
  State.reset.btnSync = ⟨0b1111, 0b1111⟩ ∧ Inv State.reset ∧ ClockInv State.reset

/-- Every step keeps the invariant: legal phase, idle dwell timer, `relay_r = active`, a nonzero live
countdown while Active, the accumulator's bounds, the strobe in `S0` only, at most one digit enabled
(R26, R37, R38, R39, R123). -/
def Obligations.StepKeepsTheInvariant : Prop :=
  ∀ s t : State, Inv s → step s = .next t → Inv t

/-- Every clock edge keeps the clock-level invariant, the dwell timer's range and the strobe of one cycle
with it (R27, R124, R235). -/
def Obligations.ClockKeepsTheInvariant : Prop :=
  ∀ s t : State, ClockInv s → clock s = .next t → ClockInv t

/-- Legal digits stay legal: if what a reset loads is legal, every digit of `T` and `L` stays in 0 to 9 at
every step and every clock edge (R36). -/
def Obligations.LegalDigitsStayLegal : Prop :=
  ∀ s t : State, legalTime s.t = true → legalTime s.l = true →
    (s.ports.rst = true → legalTime (unpack s.ports.initTimeout) = true) →
    (step s = .next t ∨ clock s = .next t) → legalTime t.t = true ∧ legalTime t.l = true

/-! ### Clock level -/

/-- A slot entered with `dwt = 0` and run for `DWELL_CYCLES` clock edges without reset, whatever the
buttons do, is the slot's phase step (R4, R124). -/
def Obligations.ClockRefinesTheSlotPhase : Prop :=
  ∀ (s : State) (i : Fin 4) (ps : List Ports), legalConfig s.cfg = true → slotOf s.ph = some i → s.dwt = 0 →
    ps.length = s.cfg.dwellCycles → (∀ p ∈ ps, p.rst = false) →
    ∃ t, exec (decodePhase s.ph) s = .next t ∧ phaseView (clockRun ps s) = phaseView t

/-- One clock edge in `UPD` is the update phase with the synchronizer's second stage as the sample (R156,
R231). -/
def Obligations.ClockRefinesTheUpdatePhase : Prop :=
  ∀ (s : State) (p : Ports), s.ph = 0b100 → p.rst = false →
    ∃ t, exec .update { s with ports := { p with btnN := s.btnSync.stage2 } } = .next t ∧
      phaseView (clockEdge { s with ports := p }) = phaseView t

/-- A pass lasts `4*DWELL_CYCLES + 1` clock cycles (R288), and is `PASS(s, b)` with `b` the raw level two
cycles before the `UPD` edge (R156, R240). -/
def Obligations.ClockRefinesThePass : Prop :=
  ∀ (s : State) (ps : List Ports) (p : Ports), legalConfig s.cfg = true → s.ph = 0b000 → s.dwt = 0 →
    ps.length = 4 * s.cfg.dwellCycles + 1 → (∀ q ∈ ps, q.rst = false) →
    ps[4 * s.cfg.dwellCycles - 2]? = some p →
    phaseView (clockRun ps s) = phaseView (pass p.btnN s)

/-- The dwell timer (R124): before a slot's last cycle an edge counts `dwt` up by one, and writes besides
only the strobe's clear (R235), the lines and the synchronizer's two stages (R156). Its width is the least
`w >= 1` with `2^w >= DWELL_CYCLES` (R27). -/
def Obligations.DwellTimerCountsUp : Prop :=
  (∀ (s : State) (i : Fin 4), s.ports.rst = false → slotOf s.ph = some i → s.dwt + 1 < s.cfg.dwellCycles →
    clockEdge s = { s with
      dwt := s.dwt + 1, saveStb := false, digEn := digEnDecode s, seg := segDecode s,
      btnSync := ⟨s.ports.btnN, s.btnSync.stage1⟩ }) ∧
  ∀ c : Config, 1 ≤ c.dwellCycles →
    1 ≤ dwtWidth c ∧ c.dwellCycles ≤ 2 ^ dwtWidth c ∧
    ∀ w, 1 ≤ w → c.dwellCycles ≤ 2 ^ w → dwtWidth c ≤ w
end

