-- ==== Sys2Proof/Laws/State.lean ====
section
/-! SUPPORT. What each field is after each shared operation, true by rfl, so that no later proof unfolds a
record update. -/

namespace Sys2Proof.Machine


@[simp] theorem showDigit_cfg (d : Digit) (s : State) : (showDigit d s).cfg = s.cfg := rfl
@[simp] theorem showDigit_ports (d : Digit) (s : State) : (showDigit d s).ports = s.ports := rfl
@[simp] theorem showDigit_script (d : Digit) (s : State) : (showDigit d s).script = s.script := rfl
@[simp] theorem showDigit_portDraws (d : Digit) (s : State) : (showDigit d s).portDraws = s.portDraws := rfl
@[simp] theorem showDigit_draws (d : Digit) (s : State) : (showDigit d s).draws = s.draws := rfl
@[simp] theorem showDigit_t (d : Digit) (s : State) : (showDigit d s).t = s.t := rfl
@[simp] theorem showDigit_l (d : Digit) (s : State) : (showDigit d s).l = s.l := rfl
@[simp] theorem showDigit_acc (d : Digit) (s : State) : (showDigit d s).acc = s.acc := rfl
@[simp] theorem showDigit_active (d : Digit) (s : State) : (showDigit d s).active = s.active := rfl
@[simp] theorem showDigit_rel (d : Digit) (s : State) : (showDigit d s).rel = s.rel := rfl
@[simp] theorem showDigit_ph (d : Digit) (s : State) : (showDigit d s).ph = s.ph := rfl
@[simp] theorem showDigit_dwt (d : Digit) (s : State) : (showDigit d s).dwt = s.dwt := rfl
@[simp] theorem showDigit_relay (d : Digit) (s : State) : (showDigit d s).relay = s.relay := rfl
@[simp] theorem showDigit_saveStb (d : Digit) (s : State) : (showDigit d s).saveStb = s.saveStb := rfl
@[simp] theorem showDigit_saveData (d : Digit) (s : State) : (showDigit d s).saveData = s.saveData := rfl
@[simp] theorem showDigit_btnSync (d : Digit) (s : State) : (showDigit d s).btnSync = s.btnSync := rfl
@[simp] theorem showDigit_seg (d : Digit) (s : State) : (showDigit d s).seg = codec s.cfg.glyphs d := rfl
@[simp] theorem showDigit_digEn (d : Digit) (s : State) : (showDigit d s).digEn = s.digEn := rfl
@[simp] theorem showDigit_fire (d : Digit) (s : State) : (showDigit d s).fire = s.fire := rfl
@[simp] theorem showDigit_a0 (d : Digit) (s : State) : (showDigit d s).a0 = s.a0 := rfl
@[simp] theorem showDigit_bcdOut (d : Digit) (s : State) : (showDigit d s).bcdOut = s.bcdOut := rfl
@[simp] theorem showDigit_bcdZero (d : Digit) (s : State) : (showDigit d s).bcdZero = s.bcdZero := rfl

@[simp] theorem dark_cfg (s : State) : (dark s).cfg = s.cfg := rfl
@[simp] theorem dark_ports (s : State) : (dark s).ports = s.ports := rfl
@[simp] theorem dark_script (s : State) : (dark s).script = s.script := rfl
@[simp] theorem dark_portDraws (s : State) : (dark s).portDraws = s.portDraws := rfl
@[simp] theorem dark_draws (s : State) : (dark s).draws = s.draws := rfl
@[simp] theorem dark_t (s : State) : (dark s).t = s.t := rfl
@[simp] theorem dark_l (s : State) : (dark s).l = s.l := rfl
@[simp] theorem dark_acc (s : State) : (dark s).acc = s.acc := rfl
@[simp] theorem dark_active (s : State) : (dark s).active = s.active := rfl
@[simp] theorem dark_rel (s : State) : (dark s).rel = s.rel := rfl
@[simp] theorem dark_ph (s : State) : (dark s).ph = s.ph := rfl
@[simp] theorem dark_dwt (s : State) : (dark s).dwt = s.dwt := rfl
@[simp] theorem dark_relay (s : State) : (dark s).relay = s.relay := rfl
@[simp] theorem dark_saveStb (s : State) : (dark s).saveStb = s.saveStb := rfl
@[simp] theorem dark_saveData (s : State) : (dark s).saveData = s.saveData := rfl
@[simp] theorem dark_btnSync (s : State) : (dark s).btnSync = s.btnSync := rfl
@[simp] theorem dark_seg (s : State) : (dark s).seg = 0 := rfl
@[simp] theorem dark_digEn (s : State) : (dark s).digEn = 0 := rfl
@[simp] theorem dark_fire (s : State) : (dark s).fire = s.fire := rfl
@[simp] theorem dark_a0 (s : State) : (dark s).a0 = s.a0 := rfl
@[simp] theorem dark_bcdOut (s : State) : (dark s).bcdOut = s.bcdOut := rfl
@[simp] theorem dark_bcdZero (s : State) : (dark s).bcdZero = s.bcdZero := rfl

@[simp] theorem evalInc_cfg (x : TimeValue) (s : State) : (evalInc x s).cfg = s.cfg := rfl
@[simp] theorem evalInc_ports (x : TimeValue) (s : State) : (evalInc x s).ports = s.ports := rfl
@[simp] theorem evalInc_script (x : TimeValue) (s : State) : (evalInc x s).script = s.script := rfl
@[simp] theorem evalInc_portDraws (x : TimeValue) (s : State) : (evalInc x s).portDraws = s.portDraws := rfl
@[simp] theorem evalInc_draws (x : TimeValue) (s : State) : (evalInc x s).draws = if takesDraw incDigit s x then s.draws + 1 else s.draws := rfl
@[simp] theorem evalInc_t (x : TimeValue) (s : State) : (evalInc x s).t = s.t := rfl
@[simp] theorem evalInc_l (x : TimeValue) (s : State) : (evalInc x s).l = s.l := rfl
@[simp] theorem evalInc_acc (x : TimeValue) (s : State) : (evalInc x s).acc = s.acc := rfl
@[simp] theorem evalInc_active (x : TimeValue) (s : State) : (evalInc x s).active = s.active := rfl
@[simp] theorem evalInc_rel (x : TimeValue) (s : State) : (evalInc x s).rel = s.rel := rfl
@[simp] theorem evalInc_ph (x : TimeValue) (s : State) : (evalInc x s).ph = s.ph := rfl
@[simp] theorem evalInc_dwt (x : TimeValue) (s : State) : (evalInc x s).dwt = s.dwt := rfl
@[simp] theorem evalInc_relay (x : TimeValue) (s : State) : (evalInc x s).relay = s.relay := rfl
@[simp] theorem evalInc_saveStb (x : TimeValue) (s : State) : (evalInc x s).saveStb = s.saveStb := rfl
@[simp] theorem evalInc_saveData (x : TimeValue) (s : State) : (evalInc x s).saveData = s.saveData := rfl
@[simp] theorem evalInc_btnSync (x : TimeValue) (s : State) : (evalInc x s).btnSync = s.btnSync := rfl
@[simp] theorem evalInc_seg (x : TimeValue) (s : State) : (evalInc x s).seg = s.seg := rfl
@[simp] theorem evalInc_digEn (x : TimeValue) (s : State) : (evalInc x s).digEn = s.digEn := rfl
@[simp] theorem evalInc_fire (x : TimeValue) (s : State) : (evalInc x s).fire = s.fire := rfl
@[simp] theorem evalInc_a0 (x : TimeValue) (s : State) : (evalInc x s).a0 = s.a0 := rfl
@[simp] theorem evalInc_bcdOut (x : TimeValue) (s : State) : (evalInc x s).bcdOut = incIn s x := rfl
@[simp] theorem evalInc_bcdZero (x : TimeValue) (s : State) : (evalInc x s).bcdZero = s.bcdZero := rfl

@[simp] theorem evalDec_cfg (x : TimeValue) (s : State) : (evalDec x s).cfg = s.cfg := rfl
@[simp] theorem evalDec_ports (x : TimeValue) (s : State) : (evalDec x s).ports = s.ports := rfl
@[simp] theorem evalDec_script (x : TimeValue) (s : State) : (evalDec x s).script = s.script := rfl
@[simp] theorem evalDec_portDraws (x : TimeValue) (s : State) : (evalDec x s).portDraws = s.portDraws := rfl
@[simp] theorem evalDec_draws (x : TimeValue) (s : State) : (evalDec x s).draws = if takesDraw decDigit s x then s.draws + 1 else s.draws := rfl
@[simp] theorem evalDec_t (x : TimeValue) (s : State) : (evalDec x s).t = s.t := rfl
@[simp] theorem evalDec_l (x : TimeValue) (s : State) : (evalDec x s).l = s.l := rfl
@[simp] theorem evalDec_acc (x : TimeValue) (s : State) : (evalDec x s).acc = s.acc := rfl
@[simp] theorem evalDec_active (x : TimeValue) (s : State) : (evalDec x s).active = s.active := rfl
@[simp] theorem evalDec_rel (x : TimeValue) (s : State) : (evalDec x s).rel = s.rel := rfl
@[simp] theorem evalDec_ph (x : TimeValue) (s : State) : (evalDec x s).ph = s.ph := rfl
@[simp] theorem evalDec_dwt (x : TimeValue) (s : State) : (evalDec x s).dwt = s.dwt := rfl
@[simp] theorem evalDec_relay (x : TimeValue) (s : State) : (evalDec x s).relay = s.relay := rfl
@[simp] theorem evalDec_saveStb (x : TimeValue) (s : State) : (evalDec x s).saveStb = s.saveStb := rfl
@[simp] theorem evalDec_saveData (x : TimeValue) (s : State) : (evalDec x s).saveData = s.saveData := rfl
@[simp] theorem evalDec_btnSync (x : TimeValue) (s : State) : (evalDec x s).btnSync = s.btnSync := rfl
@[simp] theorem evalDec_seg (x : TimeValue) (s : State) : (evalDec x s).seg = s.seg := rfl
@[simp] theorem evalDec_digEn (x : TimeValue) (s : State) : (evalDec x s).digEn = s.digEn := rfl
@[simp] theorem evalDec_fire (x : TimeValue) (s : State) : (evalDec x s).fire = s.fire := rfl
@[simp] theorem evalDec_a0 (x : TimeValue) (s : State) : (evalDec x s).a0 = s.a0 := rfl
@[simp] theorem evalDec_bcdOut (x : TimeValue) (s : State) : (evalDec x s).bcdOut = decIn s x := rfl
@[simp] theorem evalDec_bcdZero (x : TimeValue) (s : State) : (evalDec x s).bcdZero = s.bcdZero := rfl

@[simp] theorem evalIsZero_cfg (x : TimeValue) (s : State) : (evalIsZero x s).cfg = s.cfg := rfl
@[simp] theorem evalIsZero_ports (x : TimeValue) (s : State) : (evalIsZero x s).ports = s.ports := rfl
@[simp] theorem evalIsZero_script (x : TimeValue) (s : State) : (evalIsZero x s).script = s.script := rfl
@[simp] theorem evalIsZero_portDraws (x : TimeValue) (s : State) : (evalIsZero x s).portDraws = s.portDraws := rfl
@[simp] theorem evalIsZero_draws (x : TimeValue) (s : State) : (evalIsZero x s).draws = s.draws := rfl
@[simp] theorem evalIsZero_t (x : TimeValue) (s : State) : (evalIsZero x s).t = s.t := rfl
@[simp] theorem evalIsZero_l (x : TimeValue) (s : State) : (evalIsZero x s).l = s.l := rfl
@[simp] theorem evalIsZero_acc (x : TimeValue) (s : State) : (evalIsZero x s).acc = s.acc := rfl
@[simp] theorem evalIsZero_active (x : TimeValue) (s : State) : (evalIsZero x s).active = s.active := rfl
@[simp] theorem evalIsZero_rel (x : TimeValue) (s : State) : (evalIsZero x s).rel = s.rel := rfl
@[simp] theorem evalIsZero_ph (x : TimeValue) (s : State) : (evalIsZero x s).ph = s.ph := rfl
@[simp] theorem evalIsZero_dwt (x : TimeValue) (s : State) : (evalIsZero x s).dwt = s.dwt := rfl
@[simp] theorem evalIsZero_relay (x : TimeValue) (s : State) : (evalIsZero x s).relay = s.relay := rfl
@[simp] theorem evalIsZero_saveStb (x : TimeValue) (s : State) : (evalIsZero x s).saveStb = s.saveStb := rfl
@[simp] theorem evalIsZero_saveData (x : TimeValue) (s : State) : (evalIsZero x s).saveData = s.saveData := rfl
@[simp] theorem evalIsZero_btnSync (x : TimeValue) (s : State) : (evalIsZero x s).btnSync = s.btnSync := rfl
@[simp] theorem evalIsZero_seg (x : TimeValue) (s : State) : (evalIsZero x s).seg = s.seg := rfl
@[simp] theorem evalIsZero_digEn (x : TimeValue) (s : State) : (evalIsZero x s).digEn = s.digEn := rfl
@[simp] theorem evalIsZero_fire (x : TimeValue) (s : State) : (evalIsZero x s).fire = s.fire := rfl
@[simp] theorem evalIsZero_a0 (x : TimeValue) (s : State) : (evalIsZero x s).a0 = s.a0 := rfl
@[simp] theorem evalIsZero_bcdOut (x : TimeValue) (s : State) : (evalIsZero x s).bcdOut = s.bcdOut := rfl
@[simp] theorem evalIsZero_bcdZero (x : TimeValue) (s : State) : (evalIsZero x s).bcdZero = isZero x := rfl

@[simp] theorem pollWrite_cfg (k : Button) (f r : Bool) (s : State) : (pollWrite k f r s).cfg = s.cfg := rfl
@[simp] theorem pollWrite_ports (k : Button) (f r : Bool) (s : State) : (pollWrite k f r s).ports = s.ports := rfl
@[simp] theorem pollWrite_script (k : Button) (f r : Bool) (s : State) : (pollWrite k f r s).script = s.script := rfl
@[simp] theorem pollWrite_portDraws (k : Button) (f r : Bool) (s : State) : (pollWrite k f r s).portDraws = s.portDraws := rfl
@[simp] theorem pollWrite_draws (k : Button) (f r : Bool) (s : State) : (pollWrite k f r s).draws = s.draws := rfl
@[simp] theorem pollWrite_t (k : Button) (f r : Bool) (s : State) : (pollWrite k f r s).t = s.t := rfl
@[simp] theorem pollWrite_l (k : Button) (f r : Bool) (s : State) : (pollWrite k f r s).l = s.l := rfl
@[simp] theorem pollWrite_acc (k : Button) (f r : Bool) (s : State) : (pollWrite k f r s).acc = s.acc := rfl
@[simp] theorem pollWrite_active (k : Button) (f r : Bool) (s : State) : (pollWrite k f r s).active = s.active := rfl
@[simp] theorem pollWrite_rel (k : Button) (f r : Bool) (s : State) : (pollWrite k f r s).rel = setBit s.rel k r := rfl
@[simp] theorem pollWrite_ph (k : Button) (f r : Bool) (s : State) : (pollWrite k f r s).ph = s.ph := rfl
@[simp] theorem pollWrite_dwt (k : Button) (f r : Bool) (s : State) : (pollWrite k f r s).dwt = s.dwt := rfl
@[simp] theorem pollWrite_relay (k : Button) (f r : Bool) (s : State) : (pollWrite k f r s).relay = s.relay := rfl
@[simp] theorem pollWrite_saveStb (k : Button) (f r : Bool) (s : State) : (pollWrite k f r s).saveStb = s.saveStb := rfl
@[simp] theorem pollWrite_saveData (k : Button) (f r : Bool) (s : State) : (pollWrite k f r s).saveData = s.saveData := rfl
@[simp] theorem pollWrite_btnSync (k : Button) (f r : Bool) (s : State) : (pollWrite k f r s).btnSync = s.btnSync := rfl
@[simp] theorem pollWrite_seg (k : Button) (f r : Bool) (s : State) : (pollWrite k f r s).seg = s.seg := rfl
@[simp] theorem pollWrite_digEn (k : Button) (f r : Bool) (s : State) : (pollWrite k f r s).digEn = s.digEn := rfl
@[simp] theorem pollWrite_fire (k : Button) (f r : Bool) (s : State) : (pollWrite k f r s).fire = setBit s.fire k f := rfl
@[simp] theorem pollWrite_a0 (k : Button) (f r : Bool) (s : State) : (pollWrite k f r s).a0 = s.a0 := rfl
@[simp] theorem pollWrite_bcdOut (k : Button) (f r : Bool) (s : State) : (pollWrite k f r s).bcdOut = s.bcdOut := rfl
@[simp] theorem pollWrite_bcdZero (k : Button) (f r : Bool) (s : State) : (pollWrite k f r s).bcdZero = s.bcdZero := rfl

@[simp] theorem incTimeout_cfg (s : State) : (incTimeout s).cfg = s.cfg := rfl
@[simp] theorem incTimeout_ports (s : State) : (incTimeout s).ports = s.ports := rfl
@[simp] theorem incTimeout_script (s : State) : (incTimeout s).script = s.script := rfl
@[simp] theorem incTimeout_portDraws (s : State) : (incTimeout s).portDraws = s.portDraws := rfl
@[simp] theorem incTimeout_draws (s : State) : (incTimeout s).draws = if takesDraw incDigit s s.t then s.draws + 1 else s.draws := rfl
@[simp] theorem incTimeout_t (s : State) : (incTimeout s).t = incIn s s.t := rfl
@[simp] theorem incTimeout_l (s : State) : (incTimeout s).l = s.l := rfl
@[simp] theorem incTimeout_acc (s : State) : (incTimeout s).acc = s.acc := rfl
@[simp] theorem incTimeout_active (s : State) : (incTimeout s).active = s.active := rfl
@[simp] theorem incTimeout_rel (s : State) : (incTimeout s).rel = s.rel := rfl
@[simp] theorem incTimeout_ph (s : State) : (incTimeout s).ph = s.ph := rfl
@[simp] theorem incTimeout_dwt (s : State) : (incTimeout s).dwt = s.dwt := rfl
@[simp] theorem incTimeout_relay (s : State) : (incTimeout s).relay = s.relay := rfl
@[simp] theorem incTimeout_saveStb (s : State) : (incTimeout s).saveStb = s.saveStb := rfl
@[simp] theorem incTimeout_saveData (s : State) : (incTimeout s).saveData = s.saveData := rfl
@[simp] theorem incTimeout_btnSync (s : State) : (incTimeout s).btnSync = s.btnSync := rfl
@[simp] theorem incTimeout_seg (s : State) : (incTimeout s).seg = s.seg := rfl
@[simp] theorem incTimeout_digEn (s : State) : (incTimeout s).digEn = s.digEn := rfl
@[simp] theorem incTimeout_fire (s : State) : (incTimeout s).fire = s.fire := rfl
@[simp] theorem incTimeout_a0 (s : State) : (incTimeout s).a0 = s.a0 := rfl
@[simp] theorem incTimeout_bcdOut (s : State) : (incTimeout s).bcdOut = incIn s s.t := rfl
@[simp] theorem incTimeout_bcdZero (s : State) : (incTimeout s).bcdZero = s.bcdZero := rfl

@[simp] theorem decTimeout_cfg (s : State) : (decTimeout s).cfg = s.cfg := rfl
@[simp] theorem decTimeout_ports (s : State) : (decTimeout s).ports = s.ports := rfl
@[simp] theorem decTimeout_script (s : State) : (decTimeout s).script = s.script := rfl
@[simp] theorem decTimeout_portDraws (s : State) : (decTimeout s).portDraws = s.portDraws := rfl
@[simp] theorem decTimeout_draws (s : State) : (decTimeout s).draws = if takesDraw decDigit s s.t then s.draws + 1 else s.draws := rfl
@[simp] theorem decTimeout_t (s : State) : (decTimeout s).t = decIn s s.t := rfl
@[simp] theorem decTimeout_l (s : State) : (decTimeout s).l = s.l := rfl
@[simp] theorem decTimeout_acc (s : State) : (decTimeout s).acc = s.acc := rfl
@[simp] theorem decTimeout_active (s : State) : (decTimeout s).active = s.active := rfl
@[simp] theorem decTimeout_rel (s : State) : (decTimeout s).rel = s.rel := rfl
@[simp] theorem decTimeout_ph (s : State) : (decTimeout s).ph = s.ph := rfl
@[simp] theorem decTimeout_dwt (s : State) : (decTimeout s).dwt = s.dwt := rfl
@[simp] theorem decTimeout_relay (s : State) : (decTimeout s).relay = s.relay := rfl
@[simp] theorem decTimeout_saveStb (s : State) : (decTimeout s).saveStb = s.saveStb := rfl
@[simp] theorem decTimeout_saveData (s : State) : (decTimeout s).saveData = s.saveData := rfl
@[simp] theorem decTimeout_btnSync (s : State) : (decTimeout s).btnSync = s.btnSync := rfl
@[simp] theorem decTimeout_seg (s : State) : (decTimeout s).seg = s.seg := rfl
@[simp] theorem decTimeout_digEn (s : State) : (decTimeout s).digEn = s.digEn := rfl
@[simp] theorem decTimeout_fire (s : State) : (decTimeout s).fire = s.fire := rfl
@[simp] theorem decTimeout_a0 (s : State) : (decTimeout s).a0 = s.a0 := rfl
@[simp] theorem decTimeout_bcdOut (s : State) : (decTimeout s).bcdOut = decIn s s.t := rfl
@[simp] theorem decTimeout_bcdZero (s : State) : (decTimeout s).bcdZero = s.bcdZero := rfl

@[simp] theorem saveTimeout_cfg (s : State) : (saveTimeout s).cfg = s.cfg := rfl
@[simp] theorem saveTimeout_ports (s : State) : (saveTimeout s).ports = s.ports := rfl
@[simp] theorem saveTimeout_script (s : State) : (saveTimeout s).script = s.script := rfl
@[simp] theorem saveTimeout_portDraws (s : State) : (saveTimeout s).portDraws = s.portDraws := rfl
@[simp] theorem saveTimeout_draws (s : State) : (saveTimeout s).draws = s.draws := rfl
@[simp] theorem saveTimeout_t (s : State) : (saveTimeout s).t = s.t := rfl
@[simp] theorem saveTimeout_l (s : State) : (saveTimeout s).l = s.l := rfl
@[simp] theorem saveTimeout_acc (s : State) : (saveTimeout s).acc = s.acc := rfl
@[simp] theorem saveTimeout_active (s : State) : (saveTimeout s).active = s.active := rfl
@[simp] theorem saveTimeout_rel (s : State) : (saveTimeout s).rel = s.rel := rfl
@[simp] theorem saveTimeout_ph (s : State) : (saveTimeout s).ph = s.ph := rfl
@[simp] theorem saveTimeout_dwt (s : State) : (saveTimeout s).dwt = s.dwt := rfl
@[simp] theorem saveTimeout_relay (s : State) : (saveTimeout s).relay = s.relay := rfl
@[simp] theorem saveTimeout_saveStb (s : State) : (saveTimeout s).saveStb = true := rfl
@[simp] theorem saveTimeout_saveData (s : State) : (saveTimeout s).saveData = pack s.t := rfl
@[simp] theorem saveTimeout_btnSync (s : State) : (saveTimeout s).btnSync = s.btnSync := rfl
@[simp] theorem saveTimeout_seg (s : State) : (saveTimeout s).seg = s.seg := rfl
@[simp] theorem saveTimeout_digEn (s : State) : (saveTimeout s).digEn = s.digEn := rfl
@[simp] theorem saveTimeout_fire (s : State) : (saveTimeout s).fire = s.fire := rfl
@[simp] theorem saveTimeout_a0 (s : State) : (saveTimeout s).a0 = s.a0 := rfl
@[simp] theorem saveTimeout_bcdOut (s : State) : (saveTimeout s).bcdOut = s.bcdOut := rfl
@[simp] theorem saveTimeout_bcdZero (s : State) : (saveTimeout s).bcdZero = s.bcdZero := rfl

@[simp] theorem clearStrobe_cfg (s : State) : (clearStrobe s).cfg = s.cfg := rfl
@[simp] theorem clearStrobe_ports (s : State) : (clearStrobe s).ports = s.ports := rfl
@[simp] theorem clearStrobe_script (s : State) : (clearStrobe s).script = s.script := rfl
@[simp] theorem clearStrobe_portDraws (s : State) : (clearStrobe s).portDraws = s.portDraws := rfl
@[simp] theorem clearStrobe_draws (s : State) : (clearStrobe s).draws = s.draws := rfl
@[simp] theorem clearStrobe_t (s : State) : (clearStrobe s).t = s.t := rfl
@[simp] theorem clearStrobe_l (s : State) : (clearStrobe s).l = s.l := rfl
@[simp] theorem clearStrobe_acc (s : State) : (clearStrobe s).acc = s.acc := rfl
@[simp] theorem clearStrobe_active (s : State) : (clearStrobe s).active = s.active := rfl
@[simp] theorem clearStrobe_rel (s : State) : (clearStrobe s).rel = s.rel := rfl
@[simp] theorem clearStrobe_ph (s : State) : (clearStrobe s).ph = s.ph := rfl
@[simp] theorem clearStrobe_dwt (s : State) : (clearStrobe s).dwt = s.dwt := rfl
@[simp] theorem clearStrobe_relay (s : State) : (clearStrobe s).relay = s.relay := rfl
@[simp] theorem clearStrobe_saveStb (s : State) : (clearStrobe s).saveStb = false := rfl
@[simp] theorem clearStrobe_saveData (s : State) : (clearStrobe s).saveData = s.saveData := rfl
@[simp] theorem clearStrobe_btnSync (s : State) : (clearStrobe s).btnSync = s.btnSync := rfl
@[simp] theorem clearStrobe_seg (s : State) : (clearStrobe s).seg = s.seg := rfl
@[simp] theorem clearStrobe_digEn (s : State) : (clearStrobe s).digEn = s.digEn := rfl
@[simp] theorem clearStrobe_fire (s : State) : (clearStrobe s).fire = s.fire := rfl
@[simp] theorem clearStrobe_a0 (s : State) : (clearStrobe s).a0 = s.a0 := rfl
@[simp] theorem clearStrobe_bcdOut (s : State) : (clearStrobe s).bcdOut = s.bcdOut := rfl
@[simp] theorem clearStrobe_bcdZero (s : State) : (clearStrobe s).bcdZero = s.bcdZero := rfl

@[simp] theorem startCountdown_cfg (s : State) : (startCountdown s).cfg = s.cfg := rfl
@[simp] theorem startCountdown_ports (s : State) : (startCountdown s).ports = s.ports := rfl
@[simp] theorem startCountdown_script (s : State) : (startCountdown s).script = s.script := rfl
@[simp] theorem startCountdown_portDraws (s : State) : (startCountdown s).portDraws = s.portDraws := rfl
@[simp] theorem startCountdown_draws (s : State) : (startCountdown s).draws = s.draws := rfl
@[simp] theorem startCountdown_t (s : State) : (startCountdown s).t = s.t := rfl
@[simp] theorem startCountdown_l (s : State) : (startCountdown s).l = s.t := rfl
@[simp] theorem startCountdown_acc (s : State) : (startCountdown s).acc = 0 := rfl
@[simp] theorem startCountdown_active (s : State) : (startCountdown s).active = true := rfl
@[simp] theorem startCountdown_rel (s : State) : (startCountdown s).rel = s.rel := rfl
@[simp] theorem startCountdown_ph (s : State) : (startCountdown s).ph = s.ph := rfl
@[simp] theorem startCountdown_dwt (s : State) : (startCountdown s).dwt = s.dwt := rfl
@[simp] theorem startCountdown_relay (s : State) : (startCountdown s).relay = s.relay := rfl
@[simp] theorem startCountdown_saveStb (s : State) : (startCountdown s).saveStb = s.saveStb := rfl
@[simp] theorem startCountdown_saveData (s : State) : (startCountdown s).saveData = s.saveData := rfl
@[simp] theorem startCountdown_btnSync (s : State) : (startCountdown s).btnSync = s.btnSync := rfl
@[simp] theorem startCountdown_seg (s : State) : (startCountdown s).seg = s.seg := rfl
@[simp] theorem startCountdown_digEn (s : State) : (startCountdown s).digEn = s.digEn := rfl
@[simp] theorem startCountdown_fire (s : State) : (startCountdown s).fire = s.fire := rfl
@[simp] theorem startCountdown_a0 (s : State) : (startCountdown s).a0 = s.a0 := rfl
@[simp] theorem startCountdown_bcdOut (s : State) : (startCountdown s).bcdOut = s.bcdOut := rfl
@[simp] theorem startCountdown_bcdZero (s : State) : (startCountdown s).bcdZero = s.bcdZero := rfl

@[simp] theorem deactivate_cfg (s : State) : (deactivate s).cfg = s.cfg := rfl
@[simp] theorem deactivate_ports (s : State) : (deactivate s).ports = s.ports := rfl
@[simp] theorem deactivate_script (s : State) : (deactivate s).script = s.script := rfl
@[simp] theorem deactivate_portDraws (s : State) : (deactivate s).portDraws = s.portDraws := rfl
@[simp] theorem deactivate_draws (s : State) : (deactivate s).draws = s.draws := rfl
@[simp] theorem deactivate_t (s : State) : (deactivate s).t = s.t := rfl
@[simp] theorem deactivate_l (s : State) : (deactivate s).l = s.l := rfl
@[simp] theorem deactivate_acc (s : State) : (deactivate s).acc = s.acc := rfl
@[simp] theorem deactivate_active (s : State) : (deactivate s).active = false := rfl
@[simp] theorem deactivate_rel (s : State) : (deactivate s).rel = s.rel := rfl
@[simp] theorem deactivate_ph (s : State) : (deactivate s).ph = s.ph := rfl
@[simp] theorem deactivate_dwt (s : State) : (deactivate s).dwt = s.dwt := rfl
@[simp] theorem deactivate_relay (s : State) : (deactivate s).relay = s.relay := rfl
@[simp] theorem deactivate_saveStb (s : State) : (deactivate s).saveStb = s.saveStb := rfl
@[simp] theorem deactivate_saveData (s : State) : (deactivate s).saveData = s.saveData := rfl
@[simp] theorem deactivate_btnSync (s : State) : (deactivate s).btnSync = s.btnSync := rfl
@[simp] theorem deactivate_seg (s : State) : (deactivate s).seg = s.seg := rfl
@[simp] theorem deactivate_digEn (s : State) : (deactivate s).digEn = s.digEn := rfl
@[simp] theorem deactivate_fire (s : State) : (deactivate s).fire = s.fire := rfl
@[simp] theorem deactivate_a0 (s : State) : (deactivate s).a0 = s.a0 := rfl
@[simp] theorem deactivate_bcdOut (s : State) : (deactivate s).bcdOut = s.bcdOut := rfl
@[simp] theorem deactivate_bcdZero (s : State) : (deactivate s).bcdZero = s.bcdZero := rfl

@[simp] theorem tickDown_cfg (s : State) : (tickDown s).cfg = s.cfg := rfl
@[simp] theorem tickDown_ports (s : State) : (tickDown s).ports = s.ports := rfl
@[simp] theorem tickDown_script (s : State) : (tickDown s).script = s.script := rfl
@[simp] theorem tickDown_portDraws (s : State) : (tickDown s).portDraws = s.portDraws := rfl
@[simp] theorem tickDown_draws (s : State) : (tickDown s).draws = if takesDraw decDigit s s.l then s.draws + 1 else s.draws := rfl
@[simp] theorem tickDown_t (s : State) : (tickDown s).t = s.t := rfl
@[simp] theorem tickDown_l (s : State) : (tickDown s).l = decIn s s.l := rfl
@[simp] theorem tickDown_acc (s : State) : (tickDown s).acc = s.acc - 1000 := rfl
@[simp] theorem tickDown_active (s : State) : (tickDown s).active = s.active := rfl
@[simp] theorem tickDown_rel (s : State) : (tickDown s).rel = s.rel := rfl
@[simp] theorem tickDown_ph (s : State) : (tickDown s).ph = s.ph := rfl
@[simp] theorem tickDown_dwt (s : State) : (tickDown s).dwt = s.dwt := rfl
@[simp] theorem tickDown_relay (s : State) : (tickDown s).relay = s.relay := rfl
@[simp] theorem tickDown_saveStb (s : State) : (tickDown s).saveStb = s.saveStb := rfl
@[simp] theorem tickDown_saveData (s : State) : (tickDown s).saveData = s.saveData := rfl
@[simp] theorem tickDown_btnSync (s : State) : (tickDown s).btnSync = s.btnSync := rfl
@[simp] theorem tickDown_seg (s : State) : (tickDown s).seg = s.seg := rfl
@[simp] theorem tickDown_digEn (s : State) : (tickDown s).digEn = s.digEn := rfl
@[simp] theorem tickDown_fire (s : State) : (tickDown s).fire = s.fire := rfl
@[simp] theorem tickDown_a0 (s : State) : (tickDown s).a0 = s.a0 := rfl
@[simp] theorem tickDown_bcdOut (s : State) : (tickDown s).bcdOut = decIn s s.l := rfl
@[simp] theorem tickDown_bcdZero (s : State) : (tickDown s).bcdZero = zLNext s := rfl

@[simp] theorem addDwell_cfg (s : State) : (addDwell s).cfg = s.cfg := rfl
@[simp] theorem addDwell_ports (s : State) : (addDwell s).ports = s.ports := rfl
@[simp] theorem addDwell_script (s : State) : (addDwell s).script = s.script := rfl
@[simp] theorem addDwell_portDraws (s : State) : (addDwell s).portDraws = s.portDraws := rfl
@[simp] theorem addDwell_draws (s : State) : (addDwell s).draws = s.draws := rfl
@[simp] theorem addDwell_t (s : State) : (addDwell s).t = s.t := rfl
@[simp] theorem addDwell_l (s : State) : (addDwell s).l = s.l := rfl
@[simp] theorem addDwell_acc (s : State) : (addDwell s).acc = s.acc + BitVec.ofNat 16 s.cfg.dwellMs := rfl
@[simp] theorem addDwell_active (s : State) : (addDwell s).active = s.active := rfl
@[simp] theorem addDwell_rel (s : State) : (addDwell s).rel = s.rel := rfl
@[simp] theorem addDwell_ph (s : State) : (addDwell s).ph = s.ph := rfl
@[simp] theorem addDwell_dwt (s : State) : (addDwell s).dwt = s.dwt := rfl
@[simp] theorem addDwell_relay (s : State) : (addDwell s).relay = s.relay := rfl
@[simp] theorem addDwell_saveStb (s : State) : (addDwell s).saveStb = s.saveStb := rfl
@[simp] theorem addDwell_saveData (s : State) : (addDwell s).saveData = s.saveData := rfl
@[simp] theorem addDwell_btnSync (s : State) : (addDwell s).btnSync = s.btnSync := rfl
@[simp] theorem addDwell_seg (s : State) : (addDwell s).seg = s.seg := rfl
@[simp] theorem addDwell_digEn (s : State) : (addDwell s).digEn = s.digEn := rfl
@[simp] theorem addDwell_fire (s : State) : (addDwell s).fire = s.fire := rfl
@[simp] theorem addDwell_a0 (s : State) : (addDwell s).a0 = s.a0 := rfl
@[simp] theorem addDwell_bcdOut (s : State) : (addDwell s).bcdOut = s.bcdOut := rfl
@[simp] theorem addDwell_bcdZero (s : State) : (addDwell s).bcdZero = s.bcdZero := rfl

@[simp] theorem driveRelay_cfg (v : Bool) (s : State) : (driveRelay v s).cfg = s.cfg := rfl
@[simp] theorem driveRelay_ports (v : Bool) (s : State) : (driveRelay v s).ports = s.ports := rfl
@[simp] theorem driveRelay_script (v : Bool) (s : State) : (driveRelay v s).script = s.script := rfl
@[simp] theorem driveRelay_portDraws (v : Bool) (s : State) : (driveRelay v s).portDraws = s.portDraws := rfl
@[simp] theorem driveRelay_draws (v : Bool) (s : State) : (driveRelay v s).draws = s.draws := rfl
@[simp] theorem driveRelay_t (v : Bool) (s : State) : (driveRelay v s).t = s.t := rfl
@[simp] theorem driveRelay_l (v : Bool) (s : State) : (driveRelay v s).l = s.l := rfl
@[simp] theorem driveRelay_acc (v : Bool) (s : State) : (driveRelay v s).acc = s.acc := rfl
@[simp] theorem driveRelay_active (v : Bool) (s : State) : (driveRelay v s).active = s.active := rfl
@[simp] theorem driveRelay_rel (v : Bool) (s : State) : (driveRelay v s).rel = s.rel := rfl
@[simp] theorem driveRelay_ph (v : Bool) (s : State) : (driveRelay v s).ph = s.ph := rfl
@[simp] theorem driveRelay_dwt (v : Bool) (s : State) : (driveRelay v s).dwt = s.dwt := rfl
@[simp] theorem driveRelay_relay (v : Bool) (s : State) : (driveRelay v s).relay = v := rfl
@[simp] theorem driveRelay_saveStb (v : Bool) (s : State) : (driveRelay v s).saveStb = s.saveStb := rfl
@[simp] theorem driveRelay_saveData (v : Bool) (s : State) : (driveRelay v s).saveData = s.saveData := rfl
@[simp] theorem driveRelay_btnSync (v : Bool) (s : State) : (driveRelay v s).btnSync = s.btnSync := rfl
@[simp] theorem driveRelay_seg (v : Bool) (s : State) : (driveRelay v s).seg = s.seg := rfl
@[simp] theorem driveRelay_digEn (v : Bool) (s : State) : (driveRelay v s).digEn = s.digEn := rfl
@[simp] theorem driveRelay_fire (v : Bool) (s : State) : (driveRelay v s).fire = s.fire := rfl
@[simp] theorem driveRelay_a0 (v : Bool) (s : State) : (driveRelay v s).a0 = s.a0 := rfl
@[simp] theorem driveRelay_bcdOut (v : Bool) (s : State) : (driveRelay v s).bcdOut = s.bcdOut := rfl
@[simp] theorem driveRelay_bcdZero (v : Bool) (s : State) : (driveRelay v s).bcdZero = s.bcdZero := rfl

@[simp] theorem driveSlot_cfg (i : Fin 4) (s : State) : (driveSlot i s).cfg = s.cfg := rfl
@[simp] theorem driveSlot_ports (i : Fin 4) (s : State) : (driveSlot i s).ports = s.ports := rfl
@[simp] theorem driveSlot_script (i : Fin 4) (s : State) : (driveSlot i s).script = s.script := rfl
@[simp] theorem driveSlot_portDraws (i : Fin 4) (s : State) : (driveSlot i s).portDraws = s.portDraws := rfl
@[simp] theorem driveSlot_draws (i : Fin 4) (s : State) : (driveSlot i s).draws = s.draws := rfl
@[simp] theorem driveSlot_t (i : Fin 4) (s : State) : (driveSlot i s).t = s.t := rfl
@[simp] theorem driveSlot_l (i : Fin 4) (s : State) : (driveSlot i s).l = s.l := rfl
@[simp] theorem driveSlot_acc (i : Fin 4) (s : State) : (driveSlot i s).acc = s.acc := rfl
@[simp] theorem driveSlot_active (i : Fin 4) (s : State) : (driveSlot i s).active = s.active := rfl
@[simp] theorem driveSlot_rel (i : Fin 4) (s : State) : (driveSlot i s).rel = s.rel := rfl
@[simp] theorem driveSlot_ph (i : Fin 4) (s : State) : (driveSlot i s).ph = s.ph := rfl
@[simp] theorem driveSlot_dwt (i : Fin 4) (s : State) : (driveSlot i s).dwt = s.dwt := rfl
@[simp] theorem driveSlot_relay (i : Fin 4) (s : State) : (driveSlot i s).relay = s.relay := rfl
@[simp] theorem driveSlot_saveStb (i : Fin 4) (s : State) : (driveSlot i s).saveStb = s.saveStb := rfl
@[simp] theorem driveSlot_saveData (i : Fin 4) (s : State) : (driveSlot i s).saveData = s.saveData := rfl
@[simp] theorem driveSlot_btnSync (i : Fin 4) (s : State) : (driveSlot i s).btnSync = s.btnSync := rfl
@[simp] theorem driveSlot_seg (i : Fin 4) (s : State) : (driveSlot i s).seg = codec s.cfg.glyphs (shownDigit s i) := rfl
@[simp] theorem driveSlot_digEn (i : Fin 4) (s : State) : (driveSlot i s).digEn = onehot4 i := rfl
@[simp] theorem driveSlot_fire (i : Fin 4) (s : State) : (driveSlot i s).fire = s.fire := rfl
@[simp] theorem driveSlot_a0 (i : Fin 4) (s : State) : (driveSlot i s).a0 = s.a0 := rfl
@[simp] theorem driveSlot_bcdOut (i : Fin 4) (s : State) : (driveSlot i s).bcdOut = s.bcdOut := rfl
@[simp] theorem driveSlot_bcdZero (i : Fin 4) (s : State) : (driveSlot i s).bcdZero = s.bcdZero := rfl

@[simp] theorem endPhase_cfg (s : State) : (endPhase s).cfg = s.cfg := rfl
@[simp] theorem endPhase_ports (s : State) : (endPhase s).ports = s.ports := rfl
@[simp] theorem endPhase_script (s : State) : (endPhase s).script = s.script := rfl
@[simp] theorem endPhase_portDraws (s : State) : (endPhase s).portDraws = s.portDraws := rfl
@[simp] theorem endPhase_draws (s : State) : (endPhase s).draws = s.draws := rfl
@[simp] theorem endPhase_t (s : State) : (endPhase s).t = s.t := rfl
@[simp] theorem endPhase_l (s : State) : (endPhase s).l = s.l := rfl
@[simp] theorem endPhase_acc (s : State) : (endPhase s).acc = s.acc := rfl
@[simp] theorem endPhase_active (s : State) : (endPhase s).active = s.active := rfl
@[simp] theorem endPhase_rel (s : State) : (endPhase s).rel = s.rel := rfl
@[simp] theorem endPhase_ph (s : State) : (endPhase s).ph = s.ph := rfl
@[simp] theorem endPhase_dwt (s : State) : (endPhase s).dwt = 0 := rfl
@[simp] theorem endPhase_relay (s : State) : (endPhase s).relay = s.relay := rfl
@[simp] theorem endPhase_saveStb (s : State) : (endPhase s).saveStb = s.saveStb := rfl
@[simp] theorem endPhase_saveData (s : State) : (endPhase s).saveData = s.saveData := rfl
@[simp] theorem endPhase_btnSync (s : State) : (endPhase s).btnSync = ⟨s.ports.btnN, s.ports.btnN⟩ := rfl
@[simp] theorem endPhase_seg (s : State) : (endPhase s).seg = s.seg := rfl
@[simp] theorem endPhase_digEn (s : State) : (endPhase s).digEn = s.digEn := rfl
@[simp] theorem endPhase_fire (s : State) : (endPhase s).fire = s.fire := rfl
@[simp] theorem endPhase_a0 (s : State) : (endPhase s).a0 = s.a0 := rfl
@[simp] theorem endPhase_bcdOut (s : State) : (endPhase s).bcdOut = s.bcdOut := rfl
@[simp] theorem endPhase_bcdZero (s : State) : (endPhase s).bcdZero = s.bcdZero := rfl

@[simp] theorem recoverPhase_cfg (s : State) : (recoverPhase s).cfg = s.cfg := rfl
@[simp] theorem recoverPhase_ports (s : State) : (recoverPhase s).ports = s.ports := rfl
@[simp] theorem recoverPhase_script (s : State) : (recoverPhase s).script = s.script := rfl
@[simp] theorem recoverPhase_portDraws (s : State) : (recoverPhase s).portDraws = s.portDraws := rfl
@[simp] theorem recoverPhase_draws (s : State) : (recoverPhase s).draws = s.draws := rfl
@[simp] theorem recoverPhase_t (s : State) : (recoverPhase s).t = s.t := rfl
@[simp] theorem recoverPhase_l (s : State) : (recoverPhase s).l = s.l := rfl
@[simp] theorem recoverPhase_acc (s : State) : (recoverPhase s).acc = s.acc := rfl
@[simp] theorem recoverPhase_active (s : State) : (recoverPhase s).active = s.active := rfl
@[simp] theorem recoverPhase_rel (s : State) : (recoverPhase s).rel = s.rel := rfl
@[simp] theorem recoverPhase_ph (s : State) : (recoverPhase s).ph = 0b000 := rfl
@[simp] theorem recoverPhase_dwt (s : State) : (recoverPhase s).dwt = s.dwt := rfl
@[simp] theorem recoverPhase_relay (s : State) : (recoverPhase s).relay = s.relay := rfl
@[simp] theorem recoverPhase_saveStb (s : State) : (recoverPhase s).saveStb = s.saveStb := rfl
@[simp] theorem recoverPhase_saveData (s : State) : (recoverPhase s).saveData = s.saveData := rfl
@[simp] theorem recoverPhase_btnSync (s : State) : (recoverPhase s).btnSync = s.btnSync := rfl
@[simp] theorem recoverPhase_seg (s : State) : (recoverPhase s).seg = 0 := rfl
@[simp] theorem recoverPhase_digEn (s : State) : (recoverPhase s).digEn = 0 := rfl
@[simp] theorem recoverPhase_fire (s : State) : (recoverPhase s).fire = s.fire := rfl
@[simp] theorem recoverPhase_a0 (s : State) : (recoverPhase s).a0 = s.a0 := rfl
@[simp] theorem recoverPhase_bcdOut (s : State) : (recoverPhase s).bcdOut = s.bcdOut := rfl
@[simp] theorem recoverPhase_bcdZero (s : State) : (recoverPhase s).bcdZero = s.bcdZero := rfl

@[simp] theorem enterUpdate_cfg (s : State) : (enterUpdate s).cfg = s.cfg := rfl
@[simp] theorem enterUpdate_ports (s : State) : (enterUpdate s).ports = s.ports := rfl
@[simp] theorem enterUpdate_script (s : State) : (enterUpdate s).script = s.script := rfl
@[simp] theorem enterUpdate_portDraws (s : State) : (enterUpdate s).portDraws = s.portDraws := rfl
@[simp] theorem enterUpdate_draws (s : State) : (enterUpdate s).draws = s.draws := rfl
@[simp] theorem enterUpdate_t (s : State) : (enterUpdate s).t = s.t := rfl
@[simp] theorem enterUpdate_l (s : State) : (enterUpdate s).l = s.l := rfl
@[simp] theorem enterUpdate_acc (s : State) : (enterUpdate s).acc = s.acc := rfl
@[simp] theorem enterUpdate_active (s : State) : (enterUpdate s).active = s.active := rfl
@[simp] theorem enterUpdate_rel (s : State) : (enterUpdate s).rel = s.rel := rfl
@[simp] theorem enterUpdate_ph (s : State) : (enterUpdate s).ph = s.ph := rfl
@[simp] theorem enterUpdate_dwt (s : State) : (enterUpdate s).dwt = s.dwt := rfl
@[simp] theorem enterUpdate_relay (s : State) : (enterUpdate s).relay = s.relay := rfl
@[simp] theorem enterUpdate_saveStb (s : State) : (enterUpdate s).saveStb = s.saveStb := rfl
@[simp] theorem enterUpdate_saveData (s : State) : (enterUpdate s).saveData = s.saveData := rfl
@[simp] theorem enterUpdate_btnSync (s : State) : (enterUpdate s).btnSync = s.btnSync := rfl
@[simp] theorem enterUpdate_seg (s : State) : (enterUpdate s).seg = 0 := rfl
@[simp] theorem enterUpdate_digEn (s : State) : (enterUpdate s).digEn = 0 := rfl
@[simp] theorem enterUpdate_fire (s : State) : (enterUpdate s).fire = s.fire := rfl
@[simp] theorem enterUpdate_a0 (s : State) : (enterUpdate s).a0 = s.active := rfl
@[simp] theorem enterUpdate_bcdOut (s : State) : (enterUpdate s).bcdOut = s.bcdOut := rfl
@[simp] theorem enterUpdate_bcdZero (s : State) : (enterUpdate s).bcdZero = s.bcdZero := rfl

end Sys2Proof.Machine
end

