-- ==== Sys2Proof/Laws/Bcd.lean ====
section
/-! SUPPORT. What INC and DEC give, one lemma for each place where the carry or borrow stops, and what
ISZERO and the legality test say. -/

namespace Sys2Proof.Machine

theorem incDigit_nine {d : Digit} (h : d.toNat = 9) : incDigit d = .carry 0 := by simp [incDigit, h]

theorem incDigit_lt {d : Digit} (h : d.toNat < 9) : incDigit d = .stop (d + 1) := by
  have : d.toNat ≠ 9 := by omega
  simp [incDigit, h, this]

theorem incDigit_illegal {d : Digit} (h : 10 ≤ d.toNat) : incDigit d = .illegal := by
  have h1 : d.toNat ≠ 9 := by omega
  have h2 : ¬ d.toNat < 9 := by omega
  simp [incDigit, h1, h2]

theorem decDigit_zero {d : Digit} (h : d.toNat = 0) : decDigit d = .carry 9 := by simp [decDigit, h]

theorem decDigit_pos {d : Digit} (h : 0 < d.toNat) (h9 : d.toNat ≤ 9) : decDigit d = .stop (d - 1) := by
  have : d.toNat ≠ 0 := by omega
  simp [decDigit, h9, this]

theorem decDigit_illegal {d : Digit} (h : 10 ≤ d.toNat) : decDigit d = .illegal := by
  have h1 : d.toNat ≠ 0 := by omega
  have h2 : ¬ d.toNat ≤ 9 := by omega
  simp [decDigit, h1, h2]

/-- INC of a legal value does not depend on the treatment of illegal digits. -/
theorem incTime_stop0 (m : IllegalDigit) (f x : TimeValue) (h0 : x.d0.toNat < 9) :
    incTime m f x = { x with d0 := x.d0 + 1 } := by
  simp [incTime, chain, digits, ofDigits, incDigit_lt h0]

theorem incTime_stop1 (m : IllegalDigit) (f x : TimeValue) (h0 : x.d0.toNat = 9) (h1 : x.d1.toNat < 9) :
    incTime m f x = { x with d0 := 0, d1 := x.d1 + 1 } := by
  simp [incTime, chain, digits, ofDigits, incDigit_nine h0, incDigit_lt h1]

theorem incTime_stop2 (m : IllegalDigit) (f x : TimeValue) (h0 : x.d0.toNat = 9) (h1 : x.d1.toNat = 9)
    (h2 : x.d2.toNat < 9) : incTime m f x = { x with d0 := 0, d1 := 0, d2 := x.d2 + 1 } := by
  simp [incTime, chain, digits, ofDigits, incDigit_nine h0, incDigit_nine h1, incDigit_lt h2]

theorem incTime_stop3 (m : IllegalDigit) (f x : TimeValue) (h0 : x.d0.toNat = 9) (h1 : x.d1.toNat = 9)
    (h2 : x.d2.toNat = 9) (h3 : x.d3.toNat < 9) : incTime m f x = ⟨0, 0, 0, x.d3 + 1⟩ := by
  simp [incTime, chain, digits, ofDigits, incDigit_nine h0, incDigit_nine h1, incDigit_nine h2, incDigit_lt h3]

theorem incTime_wrap (m : IllegalDigit) (f x : TimeValue) (h0 : x.d0.toNat = 9) (h1 : x.d1.toNat = 9)
    (h2 : x.d2.toNat = 9) (h3 : x.d3.toNat = 9) : incTime m f x = zeroTime := by
  simp [incTime, chain, digits, ofDigits, incDigit_nine h0, incDigit_nine h1, incDigit_nine h2, incDigit_nine h3,
    zeroTime]

theorem decTime_stop0 (m : IllegalDigit) (f x : TimeValue) (h0 : 0 < x.d0.toNat) (l0 : x.d0.toNat ≤ 9) :
    decTime m f x = { x with d0 := x.d0 - 1 } := by
  simp [decTime, chain, digits, ofDigits, decDigit_pos h0 l0]

theorem decTime_stop1 (m : IllegalDigit) (f x : TimeValue) (h0 : x.d0.toNat = 0) (h1 : 0 < x.d1.toNat)
    (l1 : x.d1.toNat ≤ 9) : decTime m f x = { x with d0 := 9, d1 := x.d1 - 1 } := by
  simp [decTime, chain, digits, ofDigits, decDigit_zero h0, decDigit_pos h1 l1]

theorem decTime_stop2 (m : IllegalDigit) (f x : TimeValue) (h0 : x.d0.toNat = 0) (h1 : x.d1.toNat = 0)
    (h2 : 0 < x.d2.toNat) (l2 : x.d2.toNat ≤ 9) :
    decTime m f x = { x with d0 := 9, d1 := 9, d2 := x.d2 - 1 } := by
  simp [decTime, chain, digits, ofDigits, decDigit_zero h0, decDigit_zero h1, decDigit_pos h2 l2]

theorem decTime_stop3 (m : IllegalDigit) (f x : TimeValue) (h0 : x.d0.toNat = 0) (h1 : x.d1.toNat = 0)
    (h2 : x.d2.toNat = 0) (h3 : 0 < x.d3.toNat) (l3 : x.d3.toNat ≤ 9) :
    decTime m f x = ⟨9, 9, 9, x.d3 - 1⟩ := by
  simp [decTime, chain, digits, ofDigits, decDigit_zero h0, decDigit_zero h1, decDigit_zero h2, decDigit_pos h3 l3]

theorem decTime_wrap (m : IllegalDigit) (f x : TimeValue) (h0 : x.d0.toNat = 0) (h1 : x.d1.toNat = 0)
    (h2 : x.d2.toNat = 0) (h3 : x.d3.toNat = 0) : decTime m f x = ⟨9, 9, 9, 9⟩ := by
  simp [decTime, chain, digits, ofDigits, decDigit_zero h0, decDigit_zero h1, decDigit_zero h2, decDigit_zero h3]

theorem isZero_iff (x : TimeValue) : isZero x = true ↔ x = zeroTime := by
  cases x
  simp [isZero, zeroTime, and_assoc]

theorem legalTime_iff (x : TimeValue) :
    legalTime x = true ↔ x.d0.toNat ≤ 9 ∧ x.d1.toNat ≤ 9 ∧ x.d2.toNat ≤ 9 ∧ x.d3.toNat ≤ 9 := by
  simp [legalTime, and_assoc]

end Sys2Proof.Machine
end

