-- ==== Sys2Proof/Laws/Bits.lean ====
section
/-! SUPPORT. The button vectors: reading a bit after writing one, the bits of the control vectors, and
packing of time values. -/

namespace Sys2Proof.Machine

@[simp] theorem getBit_setBit_same (v : BitVec 4) (k : Button) (b : Bool) : getBit (setBit v k b) k = b := by
  revert v
  cases k <;> cases b <;> decide

theorem getBit_setBit_other (v : BitVec 4) {k j : Button} (b : Bool) (h : j ≠ k) :
    getBit (setBit v k b) j = getBit v j := by
  revert v
  cases k <;> cases j <;> first | exact absurd rfl h | (cases b <;> decide)

@[simp] theorem vec3_bits (b2 b1 b0 : Bool) :
    (vec3 b2 b1 b0).getLsbD 2 = b2 ∧ (vec3 b2 b1 b0).getLsbD 1 = b1 ∧ (vec3 b2 b1 b0).getLsbD 0 = b0 := by
  cases b2 <;> cases b1 <;> cases b0 <;> decide

@[simp] theorem vec2_bits (b1 b0 : Bool) :
    (vec2 b1 b0).getLsbD 1 = b1 ∧ (vec2 b1 b0).getLsbD 0 = b0 := by
  cases b1 <;> cases b0 <;> decide

theorem pack_getLsbD (x : TimeValue) (i : Nat) : (pack x).getLsbD i =
    if i < 4 then x.d0.getLsbD i else if i < 8 then x.d1.getLsbD (i - 4)
    else if i < 12 then x.d2.getLsbD (i - 8) else x.d3.getLsbD (i - 12) := by
  unfold pack
  rw [BitVec.getLsbD_append, BitVec.getLsbD_append, BitVec.getLsbD_append]
  rcases (by omega : i < 4 ∨ (4 ≤ i ∧ i < 8) ∨ (8 ≤ i ∧ i < 12) ∨ 12 ≤ i) with h | ⟨h, h'⟩ | ⟨h, h'⟩ | h
  · have h1 : i < 8 := by omega
    have h2 : i < 12 := by omega
    simp [h, h1, h2]
  · have h1 : ¬ i < 4 := by omega
    have h2 : i < 12 := by omega
    simp [h', h1, h2]
  · have h1 : ¬ i < 4 := by omega
    have h2 : ¬ i < 8 := by omega
    simp [h', h1, h2]
  · have h1 : ¬ i < 4 := by omega
    have h2 : ¬ i < 8 := by omega
    have h3 : ¬ i < 12 := by omega
    simp [h1, h2, h3]

theorem unpack_pack (x : TimeValue) : unpack (pack x) = x := by
  obtain ⟨a, b, c, d⟩ := x
  simp only [unpack, TimeValue.mk.injEq]
  refine ⟨?_, ?_, ?_, ?_⟩ <;> apply BitVec.eq_of_getLsbD_eq <;> intro i hi <;>
    simp only [BitVec.getLsbD_extractLsb', pack_getLsbD] <;> interval_cases i <;> simp

theorem bytes_of_word (w : BitVec 16) : w.extractLsb' 8 8 ++ w.setWidth 8 = w := by
  apply BitVec.eq_of_getLsbD_eq
  intro i hi
  rw [BitVec.getLsbD_append, BitVec.getLsbD_extractLsb', BitVec.getLsbD_setWidth]
  interval_cases i <;> simp

end Sys2Proof.Machine
end

