-- ==== Sys2Proof/Laws/PerInstr.lean ====
section
/-! SUPPORT. For each row, the decoder reads back what the encoder writes: family RoundTrip. -/

namespace Sys2Proof.Laws.RoundTrip

/-- The word of `i`, followed by anything, decodes to `i` and leaves what followed. -/
def Statement (i : Instr) : Prop :=
  i.wellFormed = true → ∀ rest, decode (encode i ++ rest) = .ok (i, rest)

theorem enc0 : Statement .enc0 := by
  intro _ rest
  rfl

theorem enc1 : Statement .enc1 := by
  intro _ rest
  rfl

theorem enc2 : Statement .enc2 := by
  intro _ rest
  rfl

theorem enc3 : Statement .enc3 := by
  intro _ rest
  rfl

theorem enc4 : Statement .enc4 := by
  intro _ rest
  rfl

theorem enc5 : Statement .enc5 := by
  intro _ rest
  rfl

theorem enc6 : Statement .enc6 := by
  intro _ rest
  rfl

theorem enc7 : Statement .enc7 := by
  intro _ rest
  rfl

theorem enc8 : Statement .enc8 := by
  intro _ rest
  rfl

theorem enc9 : Statement .enc9 := by
  intro _ rest
  rfl

theorem encBlankAB (d : Digit) : Statement (.encBlankAB d) := by
  intro h rest
  have codes : ∀ c : Digit, (Instr.encBlankAB c).wellFormed = true → c = 10 ∨ c = 11 := by decide
  rcases codes d h with rfl | rfl <;> rfl

theorem encBlankCF (d : Digit) : Statement (.encBlankCF d) := by
  intro h rest
  have codes : ∀ c : Digit, (Instr.encBlankCF c).wellFormed = true → c = 12 ∨ c = 13 ∨ c = 14 ∨ c = 15 := by decide
  rcases codes d h with rfl | rfl | rfl | rfl <;> rfl

theorem slot0 : Statement .slot0 := by
  intro _ rest
  rfl

theorem slot1 : Statement .slot1 := by
  intro _ rest
  rfl

theorem slot2 : Statement .slot2 := by
  intro _ rest
  rfl

theorem slot3 : Statement .slot3 := by
  intro _ rest
  rfl

theorem update : Statement .update := by
  intro _ rest
  rfl

theorem phIllegal5 : Statement .phIllegal5 := by
  intro _ rest
  rfl

theorem phIllegal67 (ph : BitVec 3) : Statement (.phIllegal67 ph) := by
  intro h rest
  have codes : ∀ c : BitVec 3, (Instr.phIllegal67 c).wellFormed = true → c = 6 ∨ c = 7 := by decide
  rcases codes ph h with rfl | rfl <;> rfl

theorem pollFire (k : Button) : Statement (.pollFire k) := by
  intro _ rest
  cases k <;> rfl

theorem pollSuppress (k : Button) : Statement (.pollSuppress k) := by
  intro _ rest
  cases k <;> rfl

theorem pollIdle (k : Button) (latch : Bool) : Statement (.pollIdle k latch) := by
  intro _ rest
  cases k <;> cases latch <;> rfl

theorem pollDisallowed (k : Button) (pressed : Bool) (latch : Bool) : Statement (.pollDisallowed k pressed latch) := by
  intro _ rest
  cases k <;> cases pressed <;> cases latch <;> rfl

theorem actInc : Statement .actInc := by
  intro _ rest
  rfl

theorem actDec : Statement .actDec := by
  intro _ rest
  rfl

theorem actSave : Statement .actSave := by
  intro _ rest
  rfl

theorem start : Statement .start := by
  intro _ rest
  rfl

theorem startRefused : Statement .startRefused := by
  intro _ rest
  rfl

theorem stop (zT : Bool) : Statement (.stop zT) := by
  intro _ rest
  cases zT <;> rfl

theorem ssNone (active : Bool) (zT : Bool) : Statement (.ssNone active zT) := by
  intro _ rest
  cases active <;> cases zT <;> rfl

theorem tickContinue : Statement .tickContinue := by
  intro _ rest
  rfl

theorem tickAutostop : Statement .tickAutostop := by
  intro _ rest
  rfl

theorem tickWait (zL : Bool) : Statement (.tickWait zL) := by
  intro _ rest
  cases zL <;> rfl

theorem tickIdle (ge : Bool) (zL : Bool) : Statement (.tickIdle ge zL) := by
  intro _ rest
  cases ge <;> cases zL <;> rfl

theorem accrue : Statement .accrue := by
  intro _ rest
  rfl

theorem noAccrue : Statement .noAccrue := by
  intro _ rest
  rfl

theorem relayOn : Statement .relayOn := by
  intro _ rest
  rfl

theorem relayOff : Statement .relayOff := by
  intro _ rest
  rfl

theorem relayHold0 : Statement .relayHold0 := by
  intro _ rest
  rfl

theorem relayHold1 : Statement .relayHold1 := by
  intro _ rest
  rfl

theorem reset : Statement .reset := by
  intro _ rest
  rfl

theorem bcdInc (x : TimeValue) : Statement (.bcdInc x) := by
  intro _ rest
  change Except.ok (Instr.bcdInc (unpack ((pack x).extractLsb' 8 8 ++ (pack x).setWidth 8)), rest) = _
  rw [Machine.bytes_of_word, Machine.unpack_pack]

theorem bcdDec (x : TimeValue) : Statement (.bcdDec x) := by
  intro _ rest
  change Except.ok (Instr.bcdDec (unpack ((pack x).extractLsb' 8 8 ++ (pack x).setWidth 8)), rest) = _
  rw [Machine.bytes_of_word, Machine.unpack_pack]

theorem bcdIsZero (x : TimeValue) : Statement (.bcdIsZero x) := by
  intro _ rest
  change Except.ok (Instr.bcdIsZero (unpack ((pack x).extractLsb' 8 8 ++ (pack x).setWidth 8)), rest) = _
  rw [Machine.bytes_of_word, Machine.unpack_pack]

end Sys2Proof.Laws.RoundTrip
end

