-- ==== Sys2Proof/Laws/Update.lean ====
section
/-! SUPPORT. What each stage of the update phase can do, said once. -/

namespace Sys2Proof.Machine

/-- A poll writes `fire[k]` and `rel[k]` by the debouncer table, and nothing else. -/
theorem pollButton_eq (b : BitVec 4) (k : Button) (s : State) :
    pollButton b k s = pollWrite k (allowed s k && pressed b k && getBit s.rel k)
      (!allowed s k || !pressed b k) s := by
  unfold pollButton poll
  cases allowed s k <;> cases pressed b k <;> cases getBit s.rel k <;> rfl

/-- What follows a poll is the button's action if it fired; SAVE clears the strobe if it did not. -/
theorem fireAction_cases (k : Button) (s : State) :
    (getBit s.fire k = true ∧
      ((k = .inc ∧ fireAction k s = incTimeout s) ∨ (k = .dec ∧ fireAction k s = decTimeout s) ∨
        (k = .save ∧ fireAction k s = saveTimeout s) ∨ (k = .ss ∧ fireAction k s = s))) ∨
    (getBit s.fire k = false ∧
      ((k = .save ∧ fireAction k s = clearStrobe s) ∨ (k ≠ .save ∧ fireAction k s = s))) := by
  cases k <;> cases h : getBit s.fire _ <;> simp [fireAction, h]

/-- The dispatch evaluates ISZERO(T), then does one of STOP, START, nothing. -/
theorem dispatch_cases (s : State) :
    (getBit s.fire .ss = true ∧ s.active = true ∧ dispatch s = deactivate (evalIsZero s.t s)) ∨
    (getBit s.fire .ss = true ∧ s.active = false ∧ isZero s.t = false ∧
      dispatch s = startCountdown (evalIsZero s.t s)) ∨
    ((getBit s.fire .ss = false ∨ (s.active = false ∧ isZero s.t = true)) ∧ dispatch s = evalIsZero s.t s) := by
  unfold dispatch
  cases h1 : getBit s.fire .ss <;> cases h2 : s.active <;> cases h3 : isZero s.t <;> simp [h1, h2, h3]

/-- The tick takes one decrement and stops the countdown at zero, or does nothing. -/
theorem tick_cases (s : State) :
    (s.active = true ∧ 1000 ≤ s.acc.toNat ∧ isZero (decIn s s.l) = true ∧ tick s = deactivate (tickDown s)) ∨
    (s.active = true ∧ 1000 ≤ s.acc.toNat ∧ isZero (decIn s s.l) = false ∧ tick s = tickDown s) ∨
    ((s.active = false ∨ s.acc.toNat < 1000) ∧ tick s = s) := by
  unfold tick ge
  cases h1 : s.active
  · simp
  · by_cases h2 : 1000 ≤ s.acc.toNat
    · cases h3 : isZero (decIn s s.l) <;> simp [h2, h3, zLNext]
    · have : s.acc.toNat < 1000 := by omega
      simp [h2, this]

/-- The relay bit is `active` after a change, and what it was without one. -/
theorem relaySync_eq (s : State) :
    relaySync s = { s with relay := if s.active = s.a0 then s.relay else s.active } := by
  unfold relaySync driveRelay
  by_cases h : s.active = s.a0
  · rw [if_neg (by simpa using h), if_pos h]
  · rw [if_pos h, if_neg h]
end Sys2Proof.Machine
end

