-- ==== Sys2Proof/Laws/Step.lean ====
section
/-! SUPPORT. What a step can answer, and that every row completes. -/

namespace Sys2Proof.Machine

/-- Every row answers a next state in every state. -/
theorem exec_next (i : Instr) (s : State) : ∃ t, exec i s = .next t := by
  cases i <;> exact ⟨_, rfl⟩

/-- What is fetched is the reset row or a row of the phase register. -/
theorem fetch_cases (s : State) :
    (s.ports.rst = true ∧ fetch s = .reset) ∨ (s.ports.rst = false ∧ fetch s = decodePhase s.ph) := by
  cases h : s.ports.rst <;> simp [fetch, h]

/-- A step that answers a next state ran the fetched row in a legal configuration. -/
theorem step_next {s t : State} (h : step s = .next t) :
    legalConfig s.cfg = true ∧ ∃ u, exec (fetch s) s = .next u ∧ t = nextPorts u := by
  unfold step at h
  cases hc : legalConfig s.cfg
  · simp [hc] at h
  · obtain ⟨u, hu⟩ := exec_next (fetch s) s
    simp [hc, hu, thenNextPorts] at h
    exact ⟨rfl, u, hu, h.symm⟩

/-- Moving the environment on touches its own three fields only. -/
theorem nextPorts_eq (s : State) :
    ∃ p ps n, nextPorts s = { s with ports := p, script := ps, portDraws := n } := by
  unfold nextPorts
  split
  · exact ⟨_, _, s.portDraws, rfl⟩
  · exact ⟨_, s.script, _, rfl⟩

/-- The eight phase codes, each with the row it decodes to. -/
theorem phase_cases (ph : BitVec 3) :
    (∃ i, slotOf ph = some i ∧ ph.toNat = i.val) ∨ (ph = 0b100 ∧ slotOf ph = none) ∨
      (5 ≤ ph.toNat ∧ slotOf ph = none) := by
  revert ph
  decide

/-- Running a row and then a list of rows. -/
theorem runRows_cons {i : Instr} {s t : State} (h : exec i s = .next t) (is : List Instr) :
    runRows (i :: is) s = runRows is t := by simp [runRows, h]

/-- A row at the head of a trace stands in the state it starts from. -/
theorem trace_cons {i : Instr} {s t : State} (h : exec i s = .next t) (is : List Instr) :
    trace (i :: is) s = (i, s) :: trace is t := by simp [trace, h]

/-- Rows run one after another always complete. -/
theorem runRows_next (is : List Instr) (s : State) : ∃ t, runRows is s = .next t := by
  induction is generalizing s with
  | nil => exact ⟨s, rfl⟩
  | cons i is ih =>
    obtain ⟨u, hu⟩ := exec_next i s
    obtain ⟨t, ht⟩ := ih u
    exact ⟨t, (runRows_cons hu is).trans ht⟩

/-- Running two lists of rows is running the second where the first ends. -/
theorem runRows_append {is js : List Instr} {s t : State} (h : runRows is s = .next t) :
    runRows (is ++ js) s = runRows js t := by
  induction is generalizing s with
  | nil => cases h; rfl
  | cons i is ih =>
    obtain ⟨u, hu⟩ := exec_next i s
    rw [List.cons_append, runRows_cons hu]
    exact ih (by rwa [runRows_cons hu] at h)

end Sys2Proof.Machine
end

