-- ==== Sys2Proof/Tests/Slice0.lean ====
section
/-! SUPPORT. Small tests, each expected value taken from spec/ (the tables of spec/30_encoding.md and the
rows of spec/opcode_table.json, the vectors V-* of spec/95_test_vectors.md), and a witness for the
hypotheses of every statement that has some. -/

namespace Sys2Proof.Tests

open Sys2Proof.Machine

/-- The next state of an outcome, if it is one. -/
def after (o : Host.Outcome State Fault Refusal) : Option State :=
  match o with
  | .next s => some s
  | .fault _ => none
  | .refused _ => none

/-- A small configuration: `DWELL_MS` 100, `DWELL_CYCLES` 2, LITERAL. -/
def cfg100 : Config := ⟨100, 2, .std, .literal, true, false, true⟩

/-- The block after reset with `init_timeout = tv` and the button levels `b`. -/
def fresh (tv : BitVec 16) (b : BitVec 4) : State := State.afterReset cfg100 ⟨false, b, tv⟩

/-- Inactive in `UPD` with `T = tv` and the samples `b`. -/
def upd (tv : BitVec 16) (b : BitVec 4) : State := { fresh tv b with ph := 0b100 }

/-- Active in `UPD` with the live countdown `lv`, the accumulator `n` and the samples `b`. -/
def updActive (lv : BitVec 16) (n : BitVec 16) (b : BitVec 4) : State :=
  { upd 0x0007 b with l := unpack lv, acc := n, active := true, relay := true }

/-! ### Well-formedness: each check refuses an ill-formed term -/

theorem test_illformed_encBlankAB : (Instr.encBlankAB 12).wellFormed = false := by decide
theorem test_illformed_encBlankCF : (Instr.encBlankCF 11).wellFormed = false := by decide
theorem test_illformed_phIllegal67 : (Instr.phIllegal67 5).wellFormed = false := by decide

/-! ### Decoding: every row's vector, written from opcode_table.json -/

theorem test_decode_digit_rows :
    decodeDigit 0b0000 = .enc0 ∧ decodeDigit 0b0001 = .enc1 ∧ decodeDigit 0b0010 = .enc2 ∧
    decodeDigit 0b0011 = .enc3 ∧ decodeDigit 0b0100 = .enc4 ∧ decodeDigit 0b0101 = .enc5 ∧
    decodeDigit 0b0110 = .enc6 ∧ decodeDigit 0b0111 = .enc7 ∧ decodeDigit 0b1000 = .enc8 ∧
    decodeDigit 0b1001 = .enc9 ∧ decodeDigit 0b1010 = .encBlankAB 10 ∧ decodeDigit 0b1011 = .encBlankAB 11 ∧
    decodeDigit 0b1100 = .encBlankCF 12 ∧ decodeDigit 0b1111 = .encBlankCF 15 := by decide
theorem test_decode_phase_rows :
    decodePhase 0b000 = .slot0 ∧ decodePhase 0b001 = .slot1 ∧ decodePhase 0b010 = .slot2 ∧
    decodePhase 0b011 = .slot3 ∧ decodePhase 0b100 = .update ∧ decodePhase 0b101 = .phIllegal5 ∧
    decodePhase 0b110 = .phIllegal67 6 ∧ decodePhase 0b111 = .phIllegal67 7 := by decide
theorem test_decode_poll_rows :
    decodePoll .inc 0b111 = .pollFire .inc ∧ decodePoll .dec 0b110 = .pollSuppress .dec ∧
    decodePoll .save 0b101 = .pollIdle .save true ∧ decodePoll .ss 0b100 = .pollIdle .ss false ∧
    decodePoll .inc 0b010 = .pollDisallowed .inc true false ∧
    decodePoll .inc 0b001 = .pollDisallowed .inc false true := by decide
theorem test_decode_fire_rows :
    decodeFire .inc true = some .actInc ∧ decodeFire .dec true = some .actDec ∧
    decodeFire .save true = some .actSave ∧ decodeFire .ss true = none ∧ decodeFire .inc false = none := by decide
theorem test_decode_dispatch_rows :
    decodeSs 0b100 = .start ∧ decodeSs 0b101 = .startRefused ∧ decodeSs 0b110 = .stop false ∧
    decodeSs 0b111 = .stop true ∧ decodeSs 0b010 = .ssNone true false ∧ decodeSs 0b001 = .ssNone false true := by decide
theorem test_decode_tick_rows :
    decodeTick 0b110 = .tickContinue ∧ decodeTick 0b111 = .tickAutostop ∧ decodeTick 0b101 = .tickWait true ∧
    decodeTick 0b100 = .tickWait false ∧ decodeTick 0b010 = .tickIdle true false ∧
    decodeTick 0b001 = .tickIdle false true := by decide
theorem test_decode_accrual_relay_rows :
    decodeAccrual true = .accrue ∧ decodeAccrual false = .noAccrue ∧ decodeRelay 0b01 = .relayOn ∧
    decodeRelay 0b10 = .relayOff ∧ decodeRelay 0b00 = .relayHold0 ∧ decodeRelay 0b11 = .relayHold1 := by decide
theorem test_decode_reset_and_bcd_words :
    decodeTableWord 16 0x0701 = some .reset ∧
    decodeTableWord 32 0x12390800 = some (.bcdInc ⟨9, 3, 2, 1⟩) ∧
    decodeTableWord 32 0x01000900 = some (.bcdDec ⟨0, 0, 1, 0⟩) ∧
    decodeTableWord 32 0xA0000A00 = some (.bcdIsZero ⟨0, 0, 0, 10⟩) ∧ decodeTableWord 16 0x0700 = none := by decide

/-- `(match, mask)` of the rows of one format, as opcode_table.json lists them, pick exactly one row for
every vector. -/
def onePerVector (w : Nat) (rows : List (Nat × Nat)) : Bool :=
  (List.range (2 ^ w)).all fun v => (rows.filter fun r => v &&& r.2 == r.1).length == 1

theorem test_table_rows_do_not_overlap :
    onePerVector 4 [(0, 15), (1, 15), (2, 15), (3, 15), (4, 15), (5, 15), (6, 15), (7, 15), (8, 15), (9, 15),
      (0xA, 0xE), (0xC, 0xC)] = true ∧
    onePerVector 3 [(0, 7), (1, 7), (2, 7), (3, 7), (4, 7), (5, 7), (6, 6)] = true ∧
    onePerVector 3 [(7, 7), (6, 7), (4, 6), (0, 4)] = true ∧ onePerVector 3 [(4, 7), (5, 7), (6, 6), (0, 4)] = true ∧
    onePerVector 1 [(1, 1), (0, 1)] = true ∧ onePerVector 2 [(1, 3), (2, 3), (0, 3), (3, 3)] = true := by decide

/-! ### Rows: vectors of spec/95_test_vectors.md -/

/-- V-CD1. -/
theorem test_codec_std :
    ([0, 1, 2, 3, 4, 5, 6, 7, 8, 9, 10, 15].map (codec .std)) =
      [0x3F, 0x06, 0x5B, 0x4F, 0x66, 0x6D, 0x7D, 0x07, 0x7F, 0x6F, 0x00, 0x00] := by decide
/-- V-CD2. -/
theorem test_codec_variants : codec .alt6 6 = 0x7C ∧ codec .alt7 7 = 0x27 ∧ codec .alt9 9 = 0x67 := by decide
/-- V-DM1. -/
theorem test_frame_shows_1234 : frame (fresh 0x1234 0xF) =
    [(0b0001, 0x06), (0b0010, 0x5B), (0b0100, 0x4F), (0b1000, 0x66)] := by decide
/-- V-DM2: Active shows `L`. -/
theorem test_frame_shows_live : (frame (updActive 0x0009 0 0xF)).map Prod.snd = [0x3F, 0x3F, 0x3F, 0x6F] := by decide
/-- V-DM3: the first slot of a frame. -/
theorem test_slot_accrues : (after (step { updActive 0x0009 600 0xF with ph := 0b000 })).map
    (fun t => (t.acc, t.ph, t.digEn)) = some (700, 0b001, 0b0001) := by decide
/-- V-DM5. -/
theorem test_illegal_phase : (after (step { fresh 0x1234 0xE with ph := 0b110 })).map
    (fun t => (t.ph, t.digEn, t.seg, t.rel)) = some (0b000, 0, 0, 0b1111) := by decide
/-- R127 at clock level. -/
theorem test_illegal_phase_clock : (let t := clockEdge { fresh 0x1234 0xE with ph := 0b101, dwt := 1 }
    (t.ph, t.dwt, t.digEn, t.rel)) = (0b000, 0, 0, 0b1111) := by decide
/-- V-DM6: cycles c1 and c2. -/
theorem test_clock_slot : ((clockEdge (fresh 0x1234 0xF)).dwt, (clockEdge (clockEdge (fresh 0x1234 0xF))).ph) =
    (1, 0b001) := by decide
/-- V-DB1, the rows FIRE and DISALLOWED. -/
theorem test_poll_truth_table :
    poll true true true = (true, false) ∧ poll true true false = (false, false) ∧
    poll true false false = (false, true) ∧ poll false true false = (false, true) := by decide
/-- V-DB3: P P P R P P. -/
theorem test_held_press : pollRun true [true, true, true, false, true, true] =
    [true, false, false, false, true, false] := by decide
/-- V-BC1. -/
theorem test_inc : [0x0009, 0x0999, 0x9999, 0x1239].map (fun x => pack (incTime .draw zeroTime (unpack x))) =
    [0x0010, 0x1000, 0x0000, 0x1240] := by decide
/-- V-BC2. -/
theorem test_dec : [0x0010, 0x0100, 0x0000, 0x2000].map (fun x => pack (decTime .draw zeroTime (unpack x))) =
    [0x0009, 0x0099, 0x9999, 0x1999] := by decide
/-- V-BC5, LITERAL. -/
theorem test_literal_illegal_digits :
    [0x000A, 0x00F9, 0xA000].map (fun x => pack (incTime .literal zeroTime (unpack x))) = [0x000B, 0x0000, 0xA001] ∧
    pack (decTime .literal zeroTime (unpack 0x00A0)) = 0x0099 := by decide
/-- V-BC5, DRAW: every digit drawn, and a digit the chain does not reach. -/
theorem test_draw_illegal_digits : incTime .draw ⟨7, 6, 5, 4⟩ (unpack 0x000A) = ⟨7, 6, 5, 4⟩ ∧
    incTime .draw ⟨7, 6, 5, 4⟩ (unpack 0xA000) = unpack 0xA001 := by decide
/-- V-BC3. -/
theorem test_iszero : isZero (unpack 0x0000) = true ∧ isZero (unpack 0x1000) = false ∧ isZero (unpack 0xA000) = false := by decide
/-- V-FS1 and R243: INC and SS from zero start 0001. -/
theorem test_inc_and_start : (after (exec .update (upd 0x0000 0x6))).map
    (fun t => (pack t.t, pack t.l, t.active, t.relay)) = some (0x0001, 0x0001, true, true) := by decide
/-- V-FS1: START_REFUSED. -/
theorem test_start_refused : (after (exec .update (upd 0x0000 0x7))).map
    (fun t => (t.active, t.relay, t.rel)) = some (false, false, 0b0111) := by decide
/-- V-FS2: TICK_CONTINUE keeps the remainder. -/
theorem test_tick_continue : (after (exec .update (updActive 0x0005 1600 0xF))).map
    (fun t => (pack t.l, t.acc, t.active)) = some (0x0004, 600, true) := by decide
/-- V-FS2: TICK_AUTOSTOP, with the relay off in the same pass. -/
theorem test_tick_autostop : (after (exec .update (updActive 0x0001 1600 0xF))).map
    (fun t => (pack t.l, t.acc, t.active, t.relay)) = some (0x0000, 600, false, false) := by decide
/-- V-FS2: 999 waits. -/
theorem test_tick_wait : (after (exec .update (updActive 0x0001 999 0xF))).map
    (fun t => (pack t.l, t.acc, t.active)) = some (0x0001, 999, true) := by decide
/-- V-FS3: STOP with a pending tick. -/
theorem test_stop_beats_tick : (after (exec .update (updActive 0x0002 1400 0x7))).map
    (fun t => (pack t.l, t.acc, t.active, t.relay)) = some (0x0002, 1400, false, false) := by decide
/-- V-PS1: INC and SAVE. -/
theorem test_inc_and_save : (after (exec .update (upd 0x0199 0xA))).map
    (fun t => (pack t.t, t.saveData, t.saveStb)) = some (0x0200, 0x0200, true) := by decide
/-- V-PS3. -/
theorem test_buttons_while_active : (after (exec .update { updActive 0x0009 0 0x8 with rel := 0 })).map
    (fun t => (t.rel, pack t.t, t.saveStb)) = some (0b1111, 0x0007, false) := by decide
/-- V-RS1. -/
theorem test_reset : (after (exec .reset { updActive 0x0002 1400 0x7 with ports := ⟨true, 0x7, 0x0020⟩ })).map
    (fun t => ((pack t.t, pack t.l, t.acc), (t.active, t.rel, t.ph, t.relay))) =
    some ((0x0020, 0x0000, 0), (false, 0b1111, 0b000, false)) := by decide

/-- R280: `relay = 0` and `save_stb = 0` while `rst = 1`, in the cycle before the edge too. -/
theorem test_ports_under_reset :
    (let o := outputs { updActive 0x0002 0 0xF with saveStb := true, ports := ⟨true, 0xF, 0⟩ }
    (o.relay, o.saveStb, o.seg, o.digEn)) = (false, false, 0, 0) := by decide
/-- A placed word BCD_DEC presses DEC: ACT_DEC runs, with BCD_DEC of the operand, here 1234. -/
theorem test_placed_bcdDec : (let s := State.reset.withFetchWord 32 0x12340900
    ((rowsOf s).contains .actDec, (rowsOf s).contains (.bcdDec ⟨4, 3, 2, 1⟩), (rowsOf s).contains .actInc,
      (after (step s)).map fun t => pack t.t)) = (true, true, false, some 0x1233) := by decide
/-- A placed word BCD_INC presses INC. -/
theorem test_placed_bcdInc : (let s := State.reset.withFetchWord 32 0x12340800
    ((rowsOf s).contains .actInc, (rowsOf s).contains (.bcdInc ⟨4, 3, 2, 1⟩),
      (after (step s)).map fun t => pack t.t)) = (true, true, some 0x1235) := by decide

/-! ### Witnesses: for each statement with hypotheses, values that meet them together -/

theorem test_meets_DecodeEncodeAgree : (Instr.encBlankCF 15).wellFormed = true ∧ (Instr.phIllegal67 6).wellFormed = true := by decide
theorem test_meets_DecodedWordIsItsEncoding : tagged [0b110, 0x03] = true ∧
    decodeVector .dispatch 0b110 = .ok (.stop false) := ⟨by decide, rfl⟩
theorem test_meets_StepRunsTheDecodedOperation : legalConfig (fresh 0 0).cfg = true ∧
    decode (fetchBytes (fresh 0 0)) = .ok (.slot0, []) := ⟨by decide, rfl⟩
theorem test_meets_StepStopsOnlyOnIllegalConfiguration :
    (({ cfg100 with dwellMs := 0 } : Config).dwellMs < 1) ∧ 250 < ({ cfg100 with dwellMs := 251 } : Config).dwellMs ∧
    ({ cfg100 with dwellCycles := 0 } : Config).dwellCycles < 1 ∧ legalConfig { cfg100 with dwellMs := 250, dwellCycles := 1 } = true ∧
    legalConfig { cfg100 with dwellMs := 1 } = true := by decide
theorem test_meets_PlacedWordIsRunNext : decodeTableWord 8 0x04 = some .update ∧
    decodeTableWord 16 0x1302 = some (.pollDisallowed .ss true false) ∧
    decodeTableWord 16 0x1000 = some (.pollDisallowed .inc false false) := by decide
theorem test_meets_IllegalDigitsShowBlank : ((10 : Digit) = 10 ∨ (10 : Digit) = 11) ∧ 12 ≤ (12 : Digit).toNat ∧ 12 ≤ (15 : Digit).toNat := by decide
theorem test_meets_CodecIsTotalAndInjective : (9 : Digit).toNat ≤ 9 ∧ codec .alt9 9 = codec .alt9 9 := by decide
theorem test_meets_SlotRunsItsRows : slotOf (fresh 0 0).ph = some 0 ∧ (fresh 0 0).ports.rst = false ∧
    slotOf 0b011 = some 3 := by decide
theorem test_meets_AccrualRowsAddTheDwell : (updActive 1 0 0xF).active = true ∧ (fresh 0 0).active = false := by decide
theorem test_meets_IllegalPhasesRecover : (fresh 0 0).ports.rst = false ∧ 5 ≤ (5 : BitVec 3).toNat ∧
    5 ≤ (7 : BitVec 3).toNat ∧ legalConfig cfg100 = true := by decide
theorem test_meets_PhaseAdvancesInOrder :
    ([0, 1, 2, 3, 4].all fun ph => (after (step { fresh 0 0xF with ph := ph })).isSome) = true ∧
    (after (step { fresh 0 0xF with ports := ⟨true, 0, 0⟩ })).isSome = true := by decide
theorem test_meets_PhaseAdvancesInOrder_clock :
    ([0, 1, 2, 3, 4].all fun ph => (after (clock { fresh 0 0xF with ph := ph })).isSome) = true ∧
    (after (clock { fresh 0 0xF with dwt := 1 })).isSome = true ∧ (fresh 0 0xF).dwt + 1 < cfg100.dwellCycles ∧
    1 + 1 = cfg100.dwellCycles ∧ (after (clock { fresh 0 0xF with ports := ⟨true, 0, 0⟩ })).isSome = true := by decide
theorem test_meets_PhaseAdvancesInOrder_slot :
    legalConfig (fresh 0 0xF).cfg = true ∧ (fresh 0 0xF).ph.toNat < 4 ∧ (fresh 0 0xF).dwt = 0 ∧
    (∀ p ∈ [(⟨false, 0, 0⟩ : Ports), ⟨false, 1, 1⟩], p.rst = false) ∧ 2 ≤ (fresh 0 0xF).cfg.dwellCycles := by decide
theorem test_meets_SlotsReadTheReversedDigit : (fresh 0 0).ports.rst = false ∧ (fresh 0 0).ph.toNat = (0 : Fin 4).val ∧
    (0b011 : BitVec 3).toNat = (3 : Fin 4).val := by decide
theorem test_meets_LinesFollowTheOutputDecode : (after (step (fresh 0 0xF))).isSome = true ∧
    (after (step (upd 0 0xF))).isSome = true := by decide
theorem test_meets_FrameShowsTheEntrySource :
    let s := { fresh 0 0xF with script := List.replicate 3 ⟨false, 0xF, 0⟩ }
    legalConfig s.cfg = true ∧ s.ph = 0b000 ∧ s.ports.rst = false ∧
      s.script = [⟨false, 0xF, 0⟩, ⟨false, 0xF, 0⟩, ⟨false, 0xF, 0⟩] := by decide
theorem test_meets_PinsApplyThePolarity : 6 < 7 ∧ 3 < 4 ∧ (segPins (fresh 0x1234 0xF)).getLsbD 0 = true ∧
    (after (step (fresh 0x1234 0xF))).isSome = true ∧ (after (clock (fresh 0x1234 0xF))).isSome = true := by decide
theorem test_meets_PollRunsTheRowOfItsVector :
    (allowed (upd 0 0xE) .inc = true ∧ pressed 0xE .inc = true ∧ getBit (upd 0 0xE).rel .inc = true) ∧
    getBit ({ upd 0 0xE with rel := 0 }).rel .inc = false ∧ pressed 0xF .inc = false ∧
    allowed (updActive 1 0 0xE) .inc = false := by decide
theorem test_meets_HeldPressFiresOnce :
    (∀ c ∈ [(0x7 : BitVec 4), 0x6], pressed c .ss = true) ∧ AllowedThroughout .ss [0x7, 0x6] (fresh 0 0) ∧
    getBit (fresh 0 0).rel .ss = true ∧ pressed 0xF .ss = false := ⟨by decide, .inl rfl, by decide⟩
theorem test_meets_HeldPressFiresOnce_inc : AllowedThroughout .inc [0xE, 0xE] (fresh 0 0) :=
  .inr (by decide)
theorem test_meets_HeldPressFiresAfterStopAndReset : (updActive 1 1000 0xE).active = true ∧ pressed 0xE .inc = true ∧
    (pass 0xE (updActive 1 1000 0xE)).active = false := by decide
theorem test_meets_HeldPressFiresAfterStopAndReset_reset : pressed 0x7 .ss = true := by decide
theorem test_meets_ButtonsMatterInUpdateOnly : (fresh 0 0).ph ≠ 0b100 ∧ (after (step (fresh 0 0))).isSome = true ∧
    (after (step { upd 0 0 with ports := ⟨true, 0, 0⟩ })).isSome = true := by decide
theorem test_meets_BcdRowsCountModTenThousand : legalTime ⟨9, 9, 9, 9⟩ = true ∧ legalTime ⟨0, 0, 0, 0⟩ = true := by decide
theorem test_meets_IncrementAndDecrementInvert : legalTime ⟨9, 9, 9, 9⟩ = true := by decide
theorem test_meets_IncrementMeetsAnIllegalDigit :
    (∀ i < (3 : Fin 4), (digitOf ⟨9, 9, 9, 10⟩ i).toNat = 9) ∧ 10 ≤ (digitOf ⟨9, 9, 9, 10⟩ 3).toNat ∧
    10 ≤ (digitOf ⟨15, 0, 0, 0⟩ 0).toNat ∧ (digitOf ⟨8, 10, 0, 0⟩ 0).toNat < 9 := by decide
theorem test_meets_DecrementMeetsAnIllegalDigit :
    (∀ i < (3 : Fin 4), (digitOf ⟨0, 0, 0, 10⟩ i).toNat = 0) ∧ 10 ≤ (digitOf ⟨0, 0, 0, 10⟩ 3).toNat ∧
    10 ≤ (digitOf ⟨15, 0, 0, 0⟩ 0).toNat ∧ 0 < (digitOf ⟨9, 10, 0, 0⟩ 0).toNat := by decide
theorem test_meets_DispatchRunsTheRowOfItsVector :
    let s := { upd 0x0001 0xF with fire := 0b1000 }
    getBit s.fire .ss = true ∧ s.active = false ∧ isZero s.t = false ∧ isZero (upd 0 0xF).t = true ∧
    (updActive 1 0 0xF).active = true ∧ getBit (upd 0 0xF).fire .ss = false := by decide
theorem test_meets_TickRunsTheRowOfItsVector :
    ((updActive 2 1000 0xF).active = true ∧ 1000 ≤ (updActive 2 1000 0xF).acc.toNat ∧
      isZero (decIn (updActive 2 1000 0xF) (updActive 2 1000 0xF).l) = false) ∧
    isZero (decIn (updActive 1 1000 0xF) (updActive 1 1000 0xF).l) = true ∧
    (updActive 1 999 0xF).acc.toNat < 1000 ∧ (fresh 0 0).active = false := by decide
theorem test_meets_StopPreventsThePendingTick : (updActive 2 1400 0x7).active = true ∧
    pressed (updActive 2 1400 0x7).ports.btnN .ss = true ∧ getBit (updActive 2 1400 0x7).rel .ss = true := by decide
theorem test_meets_StartIsJudgedAfterEdits : (upd 0 0x6).active = false ∧
    pressed (upd 0 0x6).ports.btnN .ss = true ∧ getBit (upd 0 0x6).rel .ss = true := by decide
theorem test_meets_EditsWhileActiveDoNothing : (updActive 2 0 0x8).active = true ∧ getBit 0xF .ss = getBit 0x8 .ss := by decide
theorem test_meets_AccumulatorLifecycle : (after (step (updActive 2 1000 0xF))).isSome = true := by decide
theorem test_meets_ModeChangesOnlyByStartStopReset :
    (after (step (upd 1 0x7))).map (fun t => t.active) = some true ∧
    (after (step (updActive 2 1000 0x7))).map (fun t => t.active) = some false ∧
    (after (step (updActive 1 1000 0xF))).map (fun t => t.active) = some false := by decide
theorem test_meets_DecrementSchedule :
    let s := updActive 0x0005 0 0xF
    legalConfig s.cfg = true ∧ s.active = true ∧ s.acc = 0 ∧ legalTime s.l = true ∧
      silent (getBit s.rel .ss) ([(0xF : BitVec 4), 0xE].map fun b => pressed b .ss) = true ∧
      4 * s.cfg.dwellMs * 2 / 1000 < timeVal s.l := by decide
theorem test_meets_AutoStopComesOnSchedule :
    let s := { updActive 0x0001 0 0xF with cfg := { cfg100 with dwellMs := 250 } }
    legalConfig s.cfg = true ∧ s.active = true ∧ s.relay = true ∧ s.acc = 0 ∧ legalTime s.l = true ∧
      isZero s.l = false ∧ silent (getBit s.rel .ss) ([(0xF : BitVec 4)].map fun b => pressed b .ss) = true ∧
      [(0xF : BitVec 4)].length = (250 * timeVal s.l + s.cfg.dwellMs - 1) / s.cfg.dwellMs := by decide
theorem test_meets_StoppedCountdownIsUnobservable : (upd 1 0xF).active = false ∧ (after (step (upd 1 0xF))).isSome = true := by decide
theorem test_meets_ActionRunsTheRowOfItsFire : decodeFire .save (getBit ({ upd 1 0xF with fire := 0b0100 }).fire .save) = some .actSave ∧
    decodeFire .save (getBit (upd 1 0xF).fire .save) = none := by decide
theorem test_meets_RelayRowsWriteOnChangeOnly : (updActive 1 0 0xF).a0 = false ∧ (updActive 1 0 0xF).active = true ∧
    ({ upd 1 0xF with a0 := true }).active = false ∧ (upd 1 0xF).a0 = (upd 1 0xF).active := by decide
theorem test_meets_UpdateRunsItsRowsInOrder : (upd 1 0x6).ports.btnN = 0x6 := by decide
theorem test_meets_SimultaneousPresses :
    ([0xC, 0xA, 0x9, 0x6, 0x5, 0x3].all fun b => let s := upd 0x0000 b
      decide (s.active = false ∧ s.rel = 0b1111 ∧ legalTime s.t = true ∧ s.t = ⟨0, 0, 0, 0⟩)) = true ∧
    (upd 0x0001 0x5).t = ⟨1, 0, 0, 0⟩ ∧ legalTime (upd 0x9999 0xC).t = true := by decide
theorem test_meets_SavesOnlyOnADebouncedPress : (upd 1 0xB).ph.toNat ≤ 4 ∧
    (after (step (upd 1 0xB))).map (fun t => t.saveStb) = some true ∧
    (after (step (fresh 1 0xB))).map (fun t => t.saveStb) = some false := by decide
theorem test_meets_OnlyUpdateWritesTheOtherRegisters : (fresh 1 0).ports.rst = false ∧ (fresh 1 0).ph ≠ 0b100 ∧
    (after (step (fresh 1 0))).isSome = true := by decide
theorem test_meets_FiveStepsAreOnePass :
    let s := { fresh 0 0xF with script := List.replicate 4 ⟨false, 0x7, 0⟩ }
    legalConfig s.cfg = true ∧ s.ph = 0b000 ∧ s.ports.rst = false ∧
      s.script = [⟨false, 0x7, 0⟩, ⟨false, 0x7, 0⟩, ⟨false, 0x7, 0⟩, ⟨false, 0x7, 0⟩] := by decide
theorem test_meets_SignalsCarryNothing : (after (step (upd 1 0x7))).isSome = true := by decide
theorem test_meets_ResetSetsEveryRegister_length : (⟨true, 0, 0x0020⟩ : Ports).rst = true ∧
    ∀ q ∈ [(⟨true, 0, 0x0001⟩ : Ports)], q.rst = true := by decide
theorem test_meets_ResetSetsEveryRegister :
    ({ upd 1 0 with ports := ⟨true, 0, 0x0020⟩ }).ports.rst = true ∧ legalConfig cfg100 = true := by decide
theorem test_meets_StepKeepsTheInvariant : Inv (updActive 0x0005 1200 0xF) ∧
    (after (step (updActive 0x0005 1200 0xF))).isSome = true :=
  ⟨⟨by decide, by decide, by decide, by decide, by decide, by decide, by decide, by decide, .inl (by decide)⟩, by decide⟩
theorem test_meets_ClockKeepsTheInvariant : ClockInv (updActive 0x0005 1200 0xF) ∧
    (after (clock (updActive 0x0005 1200 0xF))).isSome = true :=
  ⟨⟨by decide, by decide, by decide, by decide, by decide, by decide, by decide, by decide, by decide⟩, by decide⟩
theorem test_meets_LegalDigitsStayLegal : legalTime (upd 0x9999 0xE).t = true ∧ legalTime (upd 0x9999 0xE).l = true ∧
    (upd 0x9999 0xE).ports.rst = false ∧ (after (step (upd 0x9999 0xE))).isSome = true := by decide
theorem test_meets_ClockRefinesTheSlotPhase :
    let s := fresh 0x1234 0xF
    legalConfig s.cfg = true ∧ slotOf s.ph = some 0 ∧ s.dwt = 0 ∧
      (List.replicate 2 (⟨false, 0, 0⟩ : Ports)).length = s.cfg.dwellCycles ∧
      ∀ p ∈ List.replicate 2 (⟨false, 0, 0⟩ : Ports), p.rst = false := by decide
theorem test_meets_ClockRefinesTheUpdatePhase : (upd 1 0x7).ph = 0b100 ∧ (⟨false, 0, 0⟩ : Ports).rst = false := by decide
theorem test_meets_ClockRefinesThePass :
    let s := fresh 0x1234 0xF
    let ps := List.replicate 9 (⟨false, 0x7, 0⟩ : Ports)
    legalConfig s.cfg = true ∧ s.ph = 0b000 ∧ s.dwt = 0 ∧ ps.length = 4 * s.cfg.dwellCycles + 1 ∧
      (∀ q ∈ ps, q.rst = false) ∧ ps[4 * s.cfg.dwellCycles - 2]? = some ⟨false, 0x7, 0⟩ := by decide
theorem test_meets_DwellTimerCountsUp : (fresh 0 0).ports.rst = false ∧ slotOf (fresh 0 0).ph = some 0 ∧
    (fresh 0 0).dwt + 1 < (fresh 0 0).cfg.dwellCycles := by decide
theorem test_meets_DwellTimerCountsUp_width : 1 ≤ cfg100.dwellCycles ∧
    [1, 2, 3, 4, 5, 80000].map (fun n => dwtWidth { cfg100 with dwellCycles := n }) = [1, 1, 2, 2, 3, 17] := by decide

end Sys2Proof.Tests
end

section
/-! PROOFS. The scope family (spec/00_scope.md): a step runs what its head word decodes to, the one
refusal is the configuration's, and a slot at clock level is the slot's phase step. -/

namespace Sys2Proof.Machine

/-! ### The word at the head of a step -/

/-- A vector byte that holds a value of the format's width is read back whole. -/
theorem narrow_ofNat_toNat {w : Nat} (hw : w ≤ 8) (v : BitVec w) :
    narrow w (BitVec.ofNat 8 v.toNat) = .ok v := by
  have hv : v.toNat < 2 ^ 8 := v.isLt.trans_le (Nat.pow_le_pow_right (by decide) hw)
  have hnat : (BitVec.ofNat 8 v.toNat).toNat = v.toNat := by
    rw [BitVec.toNat_ofNat, Nat.mod_eq_of_lt hv]
  have hback : (BitVec.ofNat 8 v.toNat).setWidth w = v := by
    apply BitVec.eq_of_toNat_eq
    rw [BitVec.toNat_setWidth, hnat, Nat.mod_eq_of_lt v.isLt]
  have hfits : (BitVec.ofNat 8 v.toNat).toNat < 2 ^ w := hnat.trans_lt v.isLt
  rw [narrow, if_pos hfits, hback]

theorem decode_word_phase (ph : BitVec 3) :
    decode (word .phase ph.toNat) = .ok (decodePhase ph, []) := by
  change (decodeVector .phase (BitVec.ofNat 8 ph.toNat)).map (fun i => (i, ([] : List Byte))) = _
  unfold decodeVector
  rw [narrow_ofNat_toNat (by decide)]
  rfl

/-- The word at a step's head decodes to the operation fetched, with no byte left. -/
theorem decode_fetchBytes (s : State) : decode (fetchBytes s) = .ok (fetch s, []) := by
  unfold fetchBytes fetch
  cases s.ports.rst
  · exact decode_word_phase s.ph
  · rfl

theorem decodePhase_wellFormed (ph : BitVec 3) : (decodePhase ph).wellFormed = true := by
  revert ph
  decide

theorem fetch_wellFormed (s : State) : (fetch s).wellFormed = true := by
  obtain ⟨-, hf⟩ | ⟨-, hf⟩ := fetch_cases s <;> rw [hf]
  · rfl
  · exact decodePhase_wellFormed s.ph

/-! ### When a step and a clock edge answer -/

/-- The configurations of R6, in numbers. -/
theorem legalConfig_iff (c : Config) :
    legalConfig c = true ↔ 1 ≤ c.dwellMs ∧ c.dwellMs ≤ 250 ∧ 1 ≤ c.dwellCycles := by
  simp [legalConfig, and_assoc]

theorem step_of_legalConfig {s u : State} (hc : legalConfig s.cfg = true)
    (hu : exec (fetch s) s = .next u) : step s = .next (nextPorts u) := by
  simp [step, hc, hu, thenNextPorts]

theorem clock_of_legalConfig {s : State} (hc : legalConfig s.cfg = true) :
    clock s = .next (nextPorts (clockEdge s)) := if_pos hc

theorem step_refuses_of_not_legalConfig {s : State} (hc : ¬ legalConfig s.cfg = true) :
    step s = .refused .configuration := if_neg hc

theorem clock_refuses_of_not_legalConfig {s : State} (hc : ¬ legalConfig s.cfg = true) :
    clock s = .refused .configuration := if_neg hc

/-- Settles O5: the head word decodes to the row `fetch` names, and `step` is `exec` of that row with the
environment moved on. -/
theorem stepRunsTheDecodedOperation : Obligations.StepRunsTheDecodedOperation := by
  intro s hc
  refine ⟨⟨fetch s, decode_fetchBytes s, fetch_wellFormed s⟩, fun i rest hdec => ?_⟩
  obtain ⟨rfl, -⟩ : fetch s = i ∧ [] = rest := by
    simpa [decode_fetchBytes] using hdec
  obtain ⟨t, ht⟩ := exec_next (fetch s) s
  exact ⟨t, ht, step_of_legalConfig hc ht⟩

/-- Settles O6: `legalConfig` is exactly the range of R6, and every row completes. -/
theorem stepStopsOnlyOnIllegalConfiguration : Obligations.StepStopsOnlyOnIllegalConfiguration := by
  intro s
  constructor
  · intro hout
    have hc : ¬ legalConfig s.cfg = true := by
      rw [legalConfig_iff]
      omega
    exact ⟨step_refuses_of_not_legalConfig hc, clock_refuses_of_not_legalConfig hc⟩
  · intro hlow hhigh hcycles
    have hc : legalConfig s.cfg = true := (legalConfig_iff s.cfg).2 ⟨hlow, hhigh, hcycles⟩
    obtain ⟨u, hu⟩ := exec_next (fetch s) s
    exact ⟨⟨_, step_of_legalConfig hc hu⟩, ⟨_, clock_of_legalConfig hc⟩⟩

/-! ### A slot at phase level and at clock level -/

theorem slotOf_eq_some_iff (ph : BitVec 3) (i : Fin 4) :
    slotOf ph = some i ↔ ph = BitVec.ofNat 3 i.val := by
  revert ph i
  decide

/-- The row a slot's phase code decodes to is the slot's phase step. -/
theorem exec_decodePhase_of_slot {ph : BitVec 3} {i : Fin 4} (h : slotOf ph = some i) (s : State) :
    exec (decodePhase ph) s = .next (slotPhase i s) := by
  obtain rfl := (slotOf_eq_some_iff ph i).1 h
  fin_cases i <;> rfl

/-- The dwell timer's width holds every count below `DWELL_CYCLES` (R27). -/
theorem dwellCycles_le_two_pow_dwtWidth (c : Config) : c.dwellCycles ≤ 2 ^ dwtWidth c := by
  unfold dwtWidth
  split
  · assumption
  · have : c.dwellCycles - 1 < 2 ^ (Nat.log2 (c.dwellCycles - 1) + 1) := Nat.lt_log2_self
    omega

theorem accrual_eq (s : State) :
    accrual s = { s with acc := if s.active then s.acc + BitVec.ofNat 16 s.cfg.dwellMs else s.acc } := by
  unfold accrual
  split <;> rfl

/-- An edge before the slot's last drives the lines, clears the strobe and counts the timer up (R124). -/
theorem clockEdge_before_slot_end {s : State} {i : Fin 4} (hrst : s.ports.rst = false)
    (hslot : slotOf s.ph = some i) (hdwt : s.dwt + 1 < s.cfg.dwellCycles) :
    clockEdge s = shiftSync { clearStrobe (driveSlot i s) with dwt := s.dwt + 1 } := by
  have hne : s.dwt + 1 ≠ s.cfg.dwellCycles := hdwt.ne
  have hfits : (s.dwt + 1) % 2 ^ dwtWidth s.cfg = s.dwt + 1 :=
    Nat.mod_eq_of_lt (hdwt.trans_le (dwellCycles_le_two_pow_dwtWidth s.cfg))
  simp [clockEdge, clockSlot, hrst, hslot, hne, hfits]

/-- The slot's last edge accrues the dwell and moves to the next phase (R124 to R126). -/
theorem clockEdge_at_slot_end {s : State} {i : Fin 4} (hrst : s.ports.rst = false)
    (hslot : slotOf s.ph = some i) (hdwt : s.dwt + 1 = s.cfg.dwellCycles) :
    clockEdge s = shiftSync { accrual (clearStrobe (driveSlot i s)) with ph := phaseAfterSlot i, dwt := 0 } := by
  simp [clockEdge, clockSlot, hrst, hslot, hdwt]

theorem clockRun_cons (p : Ports) (ps : List Ports) (s : State) :
    clockRun (p :: ps) s = clockRun ps (clockEdge { s with ports := p }) := rfl

/-- The slot's last edge is the slot's phase step in the phase view. -/
theorem phaseView_clockEdge_at_slot_end {s : State} {i : Fin 4} {p : Ports} (hrst : p.rst = false)
    (hslot : slotOf s.ph = some i) (hdwt : s.dwt + 1 = s.cfg.dwellCycles) :
    phaseView (clockEdge { s with ports := p }) = phaseView (slotPhase i s) := by
  rw [clockEdge_at_slot_end (s := { s with ports := p }) hrst hslot hdwt, slotPhase, accrual_eq, accrual_eq]
  rfl

/-- The phase step overwrites what an earlier edge of the same slot wrote. -/
theorem phaseView_slotPhase_after_earlier_edge (i : Fin 4) (p : Ports) (n : Nat) (s : State) :
    phaseView (slotPhase i (shiftSync { clearStrobe (driveSlot i { s with ports := p }) with dwt := n })) =
      phaseView (slotPhase i s) := by
  rw [slotPhase, slotPhase, accrual_eq, accrual_eq]
  rfl

/-- From any cycle of a slot, the edges up to the slot's end are the slot's phase step. -/
theorem phaseView_clockRun_to_slot_end {i : Fin 4} (p : Ports) (ps : List Ports) (s : State)
    (hslot : slotOf s.ph = some i) (hdwt : s.dwt + (p :: ps).length = s.cfg.dwellCycles)
    (hrst : ∀ q ∈ p :: ps, q.rst = false) :
    phaseView (clockRun (p :: ps) s) = phaseView (slotPhase i s) := by
  induction ps generalizing p s with
  | nil => exact phaseView_clockEdge_at_slot_end (hrst p (by simp)) hslot hdwt
  | cons q qs ih =>
    have hlt : s.dwt + 1 < s.cfg.dwellCycles := by
      simp only [List.length_cons] at hdwt
      omega
    rw [clockRun_cons, clockEdge_before_slot_end (s := { s with ports := p }) (hrst p (by simp)) hslot hlt,
      ← phaseView_slotPhase_after_earlier_edge i p (s.dwt + 1) s]
    refine ih q _ hslot ?_ fun r hr => hrst r (List.mem_cons_of_mem p hr)
    change s.dwt + 1 + (q :: qs).length = s.cfg.dwellCycles
    simp only [List.length_cons] at hdwt ⊢
    omega

/-- Settles O57, by induction on the edges left in the slot: each edge before the last leaves what the
slot's phase step overwrites, and the last one is that step. -/
theorem clockRefinesTheSlotPhase : Obligations.ClockRefinesTheSlotPhase := by
  intro s i ps hc hslot hdwt hlen hrst
  refine ⟨slotPhase i s, exec_decodePhase_of_slot hslot s, ?_⟩
  obtain ⟨-, -, hcycles⟩ := (legalConfig_iff s.cfg).1 hc
  cases ps with
  | nil =>
    rw [List.length_nil] at hlen
    omega
  | cons p ps => exact phaseView_clockRun_to_slot_end p ps s hslot (by rw [hdwt, hlen, Nat.zero_add]) hrst

end Sys2Proof.Machine
end

section
/-! PROOFS. The state family (spec/10_state.md): what one phase and one clock edge can do, said once for
the invariants and frames that rest on it. -/

namespace Sys2Proof.Machine

/-! ### The stages of the update phase: what each leaves alone -/

/-- An action writes `T` and the save registers, and besides them only the BCD result and its draw. -/
theorem fireAction_frame (k : Button) (s : State) : fireAction k s =
    { s with t := (fireAction k s).t, saveStb := (fireAction k s).saveStb, saveData := (fireAction k s).saveData,
             draws := (fireAction k s).draws, bcdOut := (fireAction k s).bcdOut } := by
  obtain ⟨-, ⟨-, h⟩ | ⟨-, h⟩ | ⟨-, h⟩ | ⟨-, h⟩⟩ | ⟨-, ⟨-, h⟩ | ⟨-, h⟩⟩ := fireAction_cases k s <;>
    rw [h] <;> rfl

/-- A press writes besides its action the bits `fire[k]` and `rel[k]` (R151). -/
theorem press_frame (b : BitVec 4) (k : Button) (s : State) : press b k s =
    { s with t := (press b k s).t, saveStb := (press b k s).saveStb, saveData := (press b k s).saveData,
             draws := (press b k s).draws, bcdOut := (press b k s).bcdOut,
             fire := setBit s.fire k (fires s b k), rel := setBit s.rel k (!allowed s k || !pressed b k) } := by
  unfold press
  rw [pollButton_eq]
  exact fireAction_frame k _

/-- The dispatch writes the countdown, and evaluates ISZERO. -/
theorem dispatch_frame (s : State) : dispatch s =
    { s with l := (dispatch s).l, acc := (dispatch s).acc, active := (dispatch s).active,
             bcdZero := (dispatch s).bcdZero } := by
  obtain ⟨-, -, h⟩ | ⟨-, -, -, h⟩ | ⟨-, h⟩ := dispatch_cases s <;> rw [h] <;> rfl

/-- The tick writes the countdown, and evaluates DEC and ISZERO. -/
theorem tick_frame (s : State) : tick s =
    { s with l := (tick s).l, acc := (tick s).acc, active := (tick s).active, draws := (tick s).draws,
             bcdOut := (tick s).bcdOut, bcdZero := (tick s).bcdZero } := by
  obtain ⟨-, -, -, h⟩ | ⟨-, -, -, h⟩ | ⟨-, h⟩ := tick_cases s <;> rw [h] <;> rfl

theorem tick_of_not_due {s : State} (h : s.active = false ∨ s.acc.toNat < 1000) : tick s = s := by
  obtain h | h := h
  · simp [tick, h]
  · simp [tick, ge, Nat.not_le.2 h]

section
variable (b : BitVec 4) (k : Button) (s : State)

@[simp] theorem press_cfg : (press b k s).cfg = s.cfg := by rw [press_frame]
@[simp] theorem press_l : (press b k s).l = s.l := by rw [press_frame]
@[simp] theorem press_acc : (press b k s).acc = s.acc := by rw [press_frame]
@[simp] theorem press_active : (press b k s).active = s.active := by rw [press_frame]
@[simp] theorem press_relay : (press b k s).relay = s.relay := by rw [press_frame]
@[simp] theorem press_a0 : (press b k s).a0 = s.a0 := by rw [press_frame]
@[simp] theorem press_seg : (press b k s).seg = s.seg := by rw [press_frame]
@[simp] theorem press_digEn : (press b k s).digEn = s.digEn := by rw [press_frame]
theorem press_fire : (press b k s).fire = setBit s.fire k (fires s b k) := by rw [press_frame]
theorem press_rel : (press b k s).rel = setBit s.rel k (!allowed s k || !pressed b k) := by rw [press_frame]

@[simp] theorem pollAll_cfg : (pollAll b s).cfg = s.cfg := by simp [pollAll]
@[simp] theorem pollAll_l : (pollAll b s).l = s.l := by simp [pollAll]
@[simp] theorem pollAll_acc : (pollAll b s).acc = s.acc := by simp [pollAll]
@[simp] theorem pollAll_active : (pollAll b s).active = s.active := by simp [pollAll]
@[simp] theorem pollAll_relay : (pollAll b s).relay = s.relay := by simp [pollAll]
@[simp] theorem pollAll_a0 : (pollAll b s).a0 = s.a0 := by simp [pollAll]
@[simp] theorem pollAll_seg : (pollAll b s).seg = s.seg := by simp [pollAll]
@[simp] theorem pollAll_digEn : (pollAll b s).digEn = s.digEn := by simp [pollAll]

@[simp] theorem dispatch_cfg : (dispatch s).cfg = s.cfg := by rw [dispatch_frame]
@[simp] theorem dispatch_t : (dispatch s).t = s.t := by rw [dispatch_frame]
@[simp] theorem dispatch_relay : (dispatch s).relay = s.relay := by rw [dispatch_frame]
@[simp] theorem dispatch_a0 : (dispatch s).a0 = s.a0 := by rw [dispatch_frame]
@[simp] theorem dispatch_seg : (dispatch s).seg = s.seg := by rw [dispatch_frame]
@[simp] theorem dispatch_digEn : (dispatch s).digEn = s.digEn := by rw [dispatch_frame]

@[simp] theorem tick_cfg : (tick s).cfg = s.cfg := by rw [tick_frame]
@[simp] theorem tick_t : (tick s).t = s.t := by rw [tick_frame]
@[simp] theorem tick_relay : (tick s).relay = s.relay := by rw [tick_frame]
@[simp] theorem tick_a0 : (tick s).a0 = s.a0 := by rw [tick_frame]
@[simp] theorem tick_seg : (tick s).seg = s.seg := by rw [tick_frame]
@[simp] theorem tick_digEn : (tick s).digEn = s.digEn := by rw [tick_frame]

end

/-! ### SS in the update phase -/

/-- A press of one button leaves the latch of another as it is. -/
theorem getBit_press_rel_other (b : BitVec 4) {k j : Button} (h : j ≠ k) (s : State) :
    getBit (press b k s).rel j = getBit s.rel j := by
  rw [press_rel, getBit_setBit_other _ _ h]

/-- SS is allowed in both modes (R154), so its fire needs the press and the latch alone. -/
theorem fires_ss (s : State) (b : BitVec 4) : fires s b .ss = (pressed b .ss && getBit s.rel .ss) := rfl

/-- The bit the dispatch reads: whether SS fires, which the other three polls do not change. -/
theorem getBit_pollAll_fire_ss (b : BitVec 4) (s : State) :
    getBit (pollAll b s).fire .ss = fires s b .ss := by
  rw [pollAll, press_fire, getBit_setBit_same, fires_ss, fires_ss,
    getBit_press_rel_other b (by decide), getBit_press_rel_other b (by decide),
    getBit_press_rel_other b (by decide)]

/-! ### What the update phase does to each register -/


theorem updateBlock_eq (b : BitVec 4) (s : State) :
    updateBlock b s =
      { tick (dispatch (pollAll b (enterUpdate s))) with
        relay := if (tick (dispatch (pollAll b (enterUpdate s)))).active = s.active then s.relay
          else (tick (dispatch (pollAll b (enterUpdate s)))).active
        ph := 0b000 } := by
  simp [updateBlock, relaySync_eq]

@[simp] theorem updateBlock_cfg (b : BitVec 4) (s : State) : (updateBlock b s).cfg = s.cfg := by
  simp [updateBlock_eq]
@[simp] theorem updateBlock_ph (b : BitVec 4) (s : State) : (updateBlock b s).ph = 0b000 := rfl
@[simp] theorem updateBlock_seg (b : BitVec 4) (s : State) : (updateBlock b s).seg = 0 := by
  simp [updateBlock_eq]
@[simp] theorem updateBlock_digEn (b : BitVec 4) (s : State) : (updateBlock b s).digEn = 0 := by
  simp [updateBlock_eq]
theorem updateBlock_t (b : BitVec 4) (s : State) :
    (updateBlock b s).t = (pollAll b (enterUpdate s)).t := by
  simp [updateBlock_eq]

/-- The relay bit follows `active` (R38): it is written on a change (R238), and was right before it. -/
theorem updateBlock_relay_eq_active (b : BitVec 4) {s : State} (h : s.relay = s.active) :
    (updateBlock b s).relay = (updateBlock b s).active := by
  rw [updateBlock_eq, h]
  dsimp only
  split <;> simp [*]

/-- What an update phase with the sample `b` does to the countdown: `L`, `acc` and `active` of `s` before
it and of `t` after it (spec/44_countdown_fsm.md R201 to R205). -/
inductive CountdownChange (b : BitVec 4) (s t : State) : Prop
  /-- SS fires while Active -/
  | stop (fired : fires s b .ss = true) (was : s.active = true) (l : t.l = s.l) (acc : t.acc = s.acc)
      (now : t.active = false)
  /-- SS fires while Inactive, and the timeout as edited is not zero -/
  | start (fired : fires s b .ss = true) (was : s.active = false) (nonzero : isZero t.t = false)
      (l : t.l = t.t) (acc : t.acc = 0) (now : t.active = true)
  /-- a tick takes `L` to zero -/
  | autostop (was : s.active = true) (due : 1000 ≤ s.acc.toNat) (zero : isZero t.l = true)
      (l : ∃ free, t.l = decTime s.cfg.illegalDigit free s.l) (acc : t.acc = s.acc - 1000)
      (now : t.active = false)
  /-- a tick leaves `L` above zero -/
  | countDown (was : s.active = true) (due : 1000 ≤ s.acc.toNat) (nonzero : isZero t.l = false)
      (l : ∃ free, t.l = decTime s.cfg.illegalDigit free s.l) (acc : t.acc = s.acc - 1000)
      (now : t.active = true)
  /-- no start, no stop, and no tick due -/
  | keep (idle : s.active = false ∨ s.acc.toNat < 1000) (l : t.l = s.l) (acc : t.acc = s.acc)
      (now : t.active = s.active)

/-- The dispatch decides first: after a STOP no tick is taken, and after a START none is due. -/
theorem updateBlock_countdownChange (b : BitVec 4) (s : State) :
    CountdownChange b s (updateBlock b s) := by
  have hfire : getBit (pollAll b (enterUpdate s)).fire .ss = fires s b .ss := getBit_pollAll_fire_ss b _
  have hcfg : (pollAll b (enterUpdate s)).cfg = s.cfg := pollAll_cfg b _
  have hl : (pollAll b (enterUpdate s)).l = s.l := pollAll_l b _
  have hacc : (pollAll b (enterUpdate s)).acc = s.acc := pollAll_acc b _
  have hactive : (pollAll b (enterUpdate s)).active = s.active := pollAll_active b _
  rw [updateBlock_eq]
  generalize pollAll b (enterUpdate s) = u at *
  obtain ⟨hf, ha, hd⟩ | ⟨hf, ha, hz, hd⟩ | ⟨-, hd⟩ := dispatch_cases u
  · have htick : tick (dispatch u) = dispatch u := tick_of_not_due (.inl (by rw [hd]; rfl))
    rw [htick, hd]
    exact .stop (hfire ▸ hf) (hactive ▸ ha) hl hacc rfl
  · have htick : tick (dispatch u) = dispatch u := tick_of_not_due (.inr (by simp [hd]))
    rw [htick, hd]
    exact .start (hfire ▸ hf) (hactive ▸ ha) hz rfl rfl rfl
  · rw [hd]
    have hdec : decIn (evalIsZero u.t u) (evalIsZero u.t u).l =
        decTime s.cfg.illegalDigit (Config.freeDigits u.draws) s.l := by rw [← hl, ← hcfg]; rfl
    obtain ⟨ha, hdue, hz, ht⟩ | ⟨ha, hdue, hz, ht⟩ | ⟨hidle, ht⟩ := tick_cases (evalIsZero u.t u) <;> rw [ht]
    · exact .autostop (hactive ▸ ha) (hacc ▸ hdue) hz ⟨_, hdec⟩ (congrArg (· - 1000) hacc) rfl
    · exact .countDown (hactive ▸ ha) (hacc ▸ hdue) hz ⟨_, hdec⟩ (congrArg (· - 1000) hacc) ha
    · exact .keep (by rw [← hactive, ← hacc]; exact hidle) hl hacc hactive

end Sys2Proof.Machine
end

section
/-! PROOFS. The state family: a step and a clock edge as functions of the state, the invariants, and the
statements about them. -/

namespace Sys2Proof.Machine

/-! ### One phase step, and one clock edge, by the phase it is entered in -/

/-- A slot's phase step over the state it is entered in, the accrual written out. -/
theorem slotPhase_eq (i : Fin 4) (s : State) : slotPhase i s =
    endPhase { clearStrobe (driveSlot i s) with
      acc := if s.active then s.acc + BitVec.ofNat 16 s.cfg.dwellMs else s.acc, ph := phaseAfterSlot i } := by
  rw [slotPhase, accrual_eq]
  rfl

/-- The state a phase step leaves before the environment moves on: `exec` of the row fetched. -/
def phaseStep (s : State) : State :=
  if s.ports.rst then resetBlock s
  else
    match slotOf s.ph with
    | some i => slotPhase i s
    | none => endPhase (if s.ph = 0b100 then updateBlock s.ports.btnN s else recoverPhase s)

theorem phaseStep_of_rst {s : State} (hrst : s.ports.rst = true) : phaseStep s = resetBlock s := if_pos hrst

theorem phaseStep_of_slot {s : State} {i : Fin 4} (hrst : s.ports.rst = false) (hslot : slotOf s.ph = some i) :
    phaseStep s = slotPhase i s := by
  simp [phaseStep, hrst, hslot]

theorem slotOf_of_update {ph : BitVec 3} (h : ph = 0b100) : slotOf ph = none := by rw [h]; rfl

theorem slotOf_of_illegal {ph : BitVec 3} (h : 5 ≤ ph.toNat) : slotOf ph = none ∧ ph ≠ 0b100 := by
  revert ph
  decide

theorem phaseStep_of_update {s : State} (hrst : s.ports.rst = false) (hph : s.ph = 0b100) :
    phaseStep s = endPhase (updateBlock s.ports.btnN s) := by
  simp only [phaseStep, hrst, slotOf_of_update hph, if_pos hph, Bool.false_eq_true, if_false]

theorem phaseStep_of_illegal {s : State} (hrst : s.ports.rst = false) (hph : 5 ≤ s.ph.toNat) :
    phaseStep s = endPhase (recoverPhase s) := by
  obtain ⟨hslot, hne⟩ := slotOf_of_illegal hph
  simp only [phaseStep, hrst, hslot, if_neg hne, Bool.false_eq_true, if_false]

/-- What a step is entered with: `rst`, a slot, `UPD`, or an illegal phase. -/
theorem entry_cases (s : State) :
    s.ports.rst = true ∨ (s.ports.rst = false ∧
      ((∃ i, slotOf s.ph = some i) ∨ s.ph = 0b100 ∨ 5 ≤ s.ph.toNat)) := by
  cases s.ports.rst
  · obtain ⟨i, hslot, -⟩ | ⟨hph, -⟩ | ⟨hph, -⟩ := phase_cases s.ph
    · exact .inr ⟨rfl, .inl ⟨i, hslot⟩⟩
    · exact .inr ⟨rfl, .inr (.inl hph)⟩
    · exact .inr ⟨rfl, .inr (.inr hph)⟩
  · exact .inl rfl

theorem exec_decodePhase_of_illegal {ph : BitVec 3} (h : 5 ≤ ph.toNat) (s : State) :
    exec (decodePhase ph) s = .next (endPhase (recoverPhase s)) := by
  have codes : ∀ c : BitVec 3, 5 ≤ c.toNat → c = 5 ∨ c = 6 ∨ c = 7 := by decide
  obtain rfl | rfl | rfl := codes ph h <;> rfl

/-- The phase step is what the fetched row's `exec` answers. -/
theorem exec_fetch (s : State) : exec (fetch s) s = .next (phaseStep s) := by
  obtain hrst | ⟨hrst, ⟨i, hslot⟩ | hph | hph⟩ := entry_cases s
  · simp only [fetch, hrst, phaseStep_of_rst hrst]
    rfl
  · rw [phaseStep_of_slot hrst hslot, ← exec_decodePhase_of_slot hslot]
    simp [fetch, hrst]
  · rw [phaseStep_of_update hrst hph]
    simp only [fetch, hrst, hph]
    rfl
  · rw [phaseStep_of_illegal hrst hph, ← exec_decodePhase_of_illegal hph]
    simp [fetch, hrst]

theorem toNat_of_slotOf {ph : BitVec 3} {i : Fin 4} (h : slotOf ph = some i) : ph.toNat = i.val := by
  revert ph i
  decide

/-- A phase step is a reset, a slot, the update phase, or the recovery from an illegal phase. -/
theorem phaseStep_cases (s : State) :
    (s.ports.rst = true ∧ phaseStep s = resetBlock s) ∨
    (s.ports.rst = false ∧ ∃ i, slotOf s.ph = some i ∧ phaseStep s = slotPhase i s) ∨
    (s.ports.rst = false ∧ s.ph = 0b100 ∧ phaseStep s = endPhase (updateBlock s.ports.btnN s)) ∨
    (s.ports.rst = false ∧ 5 ≤ s.ph.toNat ∧ phaseStep s = endPhase (recoverPhase s)) := by
  obtain hrst | ⟨hrst, ⟨i, hslot⟩ | hph | hph⟩ := entry_cases s
  · exact .inl ⟨hrst, phaseStep_of_rst hrst⟩
  · exact .inr (.inl ⟨hrst, i, hslot, phaseStep_of_slot hrst hslot⟩)
  · exact .inr (.inr (.inl ⟨hrst, hph, phaseStep_of_update hrst hph⟩))
  · exact .inr (.inr (.inr ⟨hrst, hph, phaseStep_of_illegal hrst hph⟩))

/-- A clock edge is a reset, a slot's last or an earlier cycle, the update phase, or a recovery. -/
theorem clockEdge_cases (s : State) :
    (s.ports.rst = true ∧ clockEdge s = resetBlock s) ∨
    (∃ i, slotOf s.ph = some i ∧ s.dwt + 1 = s.cfg.dwellCycles ∧ clockEdge s =
      shiftSync { accrual (clearStrobe (driveSlot i s)) with ph := phaseAfterSlot i, dwt := 0 }) ∨
    (∃ i, slotOf s.ph = some i ∧ s.dwt + 1 ≠ s.cfg.dwellCycles ∧ clockEdge s =
      shiftSync { clearStrobe (driveSlot i s) with dwt := (s.dwt + 1) % 2 ^ dwtWidth s.cfg }) ∨
    (s.ph = 0b100 ∧ clockEdge s = shiftSync { updateBlock s.btnSync.stage2 s with dwt := 0 }) ∨
    (5 ≤ s.ph.toNat ∧ clockEdge s = shiftSync { recoverPhase s with dwt := 0 }) := by
  obtain hrst | ⟨hrst, ⟨i, hslot⟩ | hph | hph⟩ := entry_cases s
  · exact .inl ⟨hrst, if_pos hrst⟩
  · by_cases hend : s.dwt + 1 = s.cfg.dwellCycles
    · exact .inr (.inl ⟨i, hslot, hend, clockEdge_at_slot_end hrst hslot hend⟩)
    · exact .inr (.inr (.inl ⟨i, hslot, hend, by simp [clockEdge, clockSlot, hrst, hslot, hend]⟩))
  · refine .inr (.inr (.inr (.inl ⟨hph, ?_⟩)))
    simp only [clockEdge, hrst, slotOf_of_update hph, if_pos hph, Bool.false_eq_true, if_false]
  · obtain ⟨hslot, hne⟩ := slotOf_of_illegal hph
    refine .inr (.inr (.inr (.inr ⟨hph, ?_⟩)))
    simp only [clockEdge, hrst, hslot, if_neg hne, Bool.false_eq_true, if_false]

/-- A step that answers is the phase step of a legal configuration, with the environment moved on. -/
theorem phaseStep_of_step {s t : State} (h : step s = .next t) : legalConfig s.cfg = true ∧
    ∃ p ps n, t = { phaseStep s with ports := p, script := ps, portDraws := n } := by
  obtain ⟨hc, u, hu, rfl⟩ := step_next h
  obtain rfl : phaseStep s = u := by simpa [exec_fetch] using hu
  exact ⟨hc, nextPorts_eq _⟩

theorem clockEdge_of_clock {s t : State} (h : clock s = .next t) : legalConfig s.cfg = true ∧
    ∃ p ps n, t = { clockEdge s with ports := p, script := ps, portDraws := n } := by
  unfold clock at h
  split at h
  · next hc =>
    obtain rfl : nextPorts (clockEdge s) = t := by simpa using h
    exact ⟨hc, nextPorts_eq _⟩
  · cases h

/-! ### The invariants -/

/-- What both invariants say of the mode, the relay and the countdown (R36 to R39). -/
structure CountdownInv (s : State) : Prop where
  config : legalConfig s.cfg = true
  phase : s.ph.toNat ≤ 4
  relay : s.relay = s.active
  live : s.active = true → isZero s.l = false
  accActive : s.active = true → s.acc.toNat < 1000 + s.ph.toNat * s.cfg.dwellMs
  acc : s.acc.toNat < 1000 + 4 * s.cfg.dwellMs

theorem Inv.countdown {s : State} (h : Inv s) : CountdownInv s :=
  ⟨h.config, h.phase, h.relay, h.live, h.accActive, h.acc⟩

theorem ClockInv.countdown {s : State} (h : ClockInv s) : CountdownInv s :=
  ⟨h.config, h.phase, h.relay, h.live, h.accActive, h.acc⟩

theorem CountdownInv.resetBlock {s : State} (hc : legalConfig s.cfg = true) : CountdownInv (resetBlock s) where
  config := hc
  phase := by simp [Machine.resetBlock, State.afterReset]
  relay := rfl
  live := by simp [Machine.resetBlock, State.afterReset]
  accActive := by simp [Machine.resetBlock, State.afterReset]
  acc := by simp [Machine.resetBlock, State.afterReset]

theorem toNat_phaseAfterSlot (i : Fin 4) : (phaseAfterSlot i).toNat = i.val + 1 := by
  revert i
  decide

/-- Within the accumulator's range no accrual wraps (R39). -/
theorem toNat_add_dwell {c : Config} (hc : legalConfig c = true) {acc : BitVec 16}
    (hacc : acc.toNat < 1000 + 4 * c.dwellMs) :
    (acc + BitVec.ofNat 16 c.dwellMs).toNat = acc.toNat + c.dwellMs := by
  obtain ⟨-, hms, -⟩ := (legalConfig_iff c).1 hc
  rw [BitVec.toNat_add, BitVec.toNat_ofNat]
  omega

/-- A slot's end accrues one dwell and moves one phase on. -/
theorem CountdownInv.slotEnd {s : State} (h : CountdownInv s) {i : Fin 4} (hslot : slotOf s.ph = some i) :
    CountdownInv { accrual s with ph := phaseAfterSlot i } := by
  have hph := toNat_of_slotOf hslot
  have hsucc := toNat_phaseAfterSlot i
  have hsum := toNat_add_dwell h.config h.acc
  have hframe : i.val * s.cfg.dwellMs ≤ 3 * s.cfg.dwellMs := Nat.mul_le_mul_right _ (by omega)
  have hnext : s.active = true → s.acc.toNat + s.cfg.dwellMs < 1000 + (i.val + 1) * s.cfg.dwellMs := by
    intro ha
    have := h.accActive ha
    rw [hph] at this
    rw [Nat.add_mul]
    omega
  rw [accrual_eq]
  refine ⟨h.config, ?_, h.relay, h.live, fun ha => ?_, ?_⟩
  · simp only [hsucc]
    omega
  · simp only [hsucc, if_pos (show s.active = true from ha), hsum]
    exact hnext ha
  · dsimp only
    split
    · next ha =>
      have := h.accActive ha
      rw [hph] at this
      omega
    · exact h.acc

/-- A countdown that is Active after an update phase is not at zero (R37). -/
theorem CountdownChange.live {b : BitVec 4} {s t : State} (h : CountdownChange b s t)
    (hs : s.active = true → isZero s.l = false) (ht : t.active = true) : isZero t.l = false := by
  cases h with
  | stop fired was l acc now => simp [now] at ht
  | start fired was nonzero l acc now => rw [l, nonzero]
  | autostop was due zero l acc now => simp [now] at ht
  | countDown was due nonzero l acc now => exact nonzero
  | keep idle l acc now => rw [l, hs (now ▸ ht)]

/-- An update phase takes a due tick and adds nothing, so less than a second stays in `acc` while Active
(R210). -/
theorem CountdownChange.acc_lt {b : BitVec 4} {s t : State} (h : CountdownChange b s t)
    (hs : s.acc.toNat < 2000) : t.acc.toNat ≤ s.acc.toNat ∧ (t.active = true → t.acc.toNat < 1000) := by
  have htick : 1000 ≤ s.acc.toNat → (s.acc - 1000).toNat = s.acc.toNat - 1000 := fun hdue => by bv_omega
  cases h with
  | stop fired was l acc now => simp [acc, now]
  | start fired was nonzero l acc now => simp [acc]
  | autostop was due zero l acc now =>
    rw [acc, now, htick due]
    exact ⟨Nat.sub_le _ _, by simp⟩
  | countDown was due nonzero l acc now =>
    rw [acc, htick due]
    omega
  | keep idle l acc now =>
    rw [acc, now]
    exact ⟨le_rfl, fun ha => idle.resolve_left (by simp [ha])⟩

theorem CountdownInv.updateBlock {s : State} (h : CountdownInv s) (b : BitVec 4) :
    CountdownInv (updateBlock b s) := by
  have hchange := updateBlock_countdownChange b s
  have hcfg := updateBlock_cfg b s
  obtain ⟨-, hms, -⟩ := (legalConfig_iff s.cfg).1 h.config
  have hacc := h.acc
  obtain ⟨hle, hlt⟩ := hchange.acc_lt (by omega)
  refine ⟨hcfg ▸ h.config, by simp, updateBlock_relay_eq_active b h.relay, hchange.live h.live, fun ha => ?_, ?_⟩
  · have := hlt ha
    omega
  · rw [hcfg]
    omega

/-- The invariant reads six fields, so an operation on the others keeps it. -/
theorem CountdownInv.of_same {s u : State} (h : CountdownInv s) (hcfg : u.cfg = s.cfg) (hph : u.ph = s.ph)
    (hrelay : u.relay = s.relay) (hactive : u.active = s.active) (hl : u.l = s.l) (hacc : u.acc = s.acc) :
    CountdownInv u := by
  obtain ⟨config, phase, relay, live, accActive, acc⟩ := h
  rw [← hcfg] at config accActive acc
  rw [← hph] at phase accActive
  rw [← hactive] at relay live accActive
  rw [← hacc] at acc accActive
  exact ⟨config, phase, hrelay.trans relay, hl ▸ live, accActive, acc⟩

theorem CountdownInv.driveSlot {s : State} (h : CountdownInv s) (i : Fin 4) :
    CountdownInv (clearStrobe (driveSlot i s)) := h.of_same rfl rfl rfl rfl rfl rfl

theorem CountdownInv.phaseStep {s : State} (h : CountdownInv s) : CountdownInv (phaseStep s) := by
  obtain ⟨-, hu⟩ | ⟨-, i, hslot, hu⟩ | ⟨-, -, hu⟩ | ⟨-, hph, hu⟩ := phaseStep_cases s <;> rw [hu]
  · exact .resetBlock h.config
  · exact ((h.driveSlot i).slotEnd hslot).of_same rfl rfl rfl rfl rfl rfl
  · exact (h.updateBlock _).of_same rfl rfl rfl rfl rfl rfl
  · exact absurd h.phase (by omega)

theorem CountdownInv.clockEdge {s : State} (h : CountdownInv s) : CountdownInv (clockEdge s) := by
  obtain ⟨-, hu⟩ | ⟨i, hslot, -, hu⟩ | ⟨i, -, -, hu⟩ | ⟨-, hu⟩ | ⟨hph, hu⟩ := clockEdge_cases s <;> rw [hu]
  · exact .resetBlock h.config
  · exact ((h.driveSlot i).slotEnd hslot).of_same rfl rfl rfl rfl rfl rfl
  · exact (h.driveSlot i).of_same rfl rfl rfl rfl rfl rfl
  · exact (h.updateBlock _).of_same rfl rfl rfl rfl rfl rfl
  · exact absurd h.phase (by omega)

/-! ### The dwell timer, the strobe and the lines -/

theorem phaseStep_dwt (s : State) : (phaseStep s).dwt = 0 := by
  obtain ⟨-, hu⟩ | ⟨-, i, -, hu⟩ | ⟨-, -, hu⟩ | ⟨-, -, hu⟩ := phaseStep_cases s <;> rw [hu] <;> rfl

/-- A slot's writes to the strobe and the lines, whatever it accrues (R122, R235). -/
theorem slotPhase_lines (i : Fin 4) (s : State) :
    (slotPhase i s).saveStb = false ∧ (slotPhase i s).digEn = onehot4 i := by
  rw [slotPhase_eq]
  exact ⟨rfl, rfl⟩

/-- Every phase ends with the lines dark or driven for one slot (R122, R123). -/
theorem phaseStep_displayLines (s : State) : DisplayLines (phaseStep s) := by
  obtain ⟨-, hu⟩ | ⟨-, i, -, hu⟩ | ⟨-, -, hu⟩ | ⟨-, -, hu⟩ := phaseStep_cases s <;> rw [hu]
  · exact .inl ⟨rfl, rfl⟩
  · exact .inr ⟨i, (slotPhase_lines i s).2⟩
  · exact .inl ⟨updateBlock_digEn _ s, updateBlock_seg _ s⟩
  · exact .inl ⟨rfl, rfl⟩

/-- A slot leaves the strobe down, and `UPD`, reset and an illegal phase lead to `S0` (R126, R235). -/
theorem phaseStep_saveStb (s : State) (hstb : (phaseStep s).saveStb = true) : (phaseStep s).ph = 0b000 := by
  obtain ⟨-, hu⟩ | ⟨-, i, -, hu⟩ | ⟨-, -, hu⟩ | ⟨-, -, hu⟩ := phaseStep_cases s <;> rw [hu] at hstb ⊢
  · rfl
  · simp [slotPhase_lines] at hstb
  · rfl
  · rfl

/-- At clock level the strobe is up in the first cycle of `S0` only (R235). -/
theorem clockEdge_saveStb (s : State) (hstb : (clockEdge s).saveStb = true) :
    (clockEdge s).ph = 0b000 ∧ (clockEdge s).dwt = 0 := by
  obtain ⟨-, hu⟩ | ⟨i, -, -, hu⟩ | ⟨i, -, -, hu⟩ | ⟨-, hu⟩ | ⟨-, hu⟩ := clockEdge_cases s <;> rw [hu] at hstb ⊢
  · exact ⟨rfl, rfl⟩
  · rw [accrual_eq] at hstb
    cases hstb
  · cases hstb
  · exact ⟨rfl, rfl⟩
  · exact ⟨rfl, rfl⟩

/-- The dwell timer stays in its range, and `UPD` is entered with it at 0 (R27, R124). -/
theorem clockEdge_dwt {s : State} (hc : legalConfig s.cfg = true) (hdwt : s.dwt < s.cfg.dwellCycles) :
    (clockEdge s).dwt < (clockEdge s).cfg.dwellCycles ∧
      ((clockEdge s).ph = 0b100 → (clockEdge s).dwt = 0) := by
  obtain ⟨-, -, hpos⟩ := (legalConfig_iff s.cfg).1 hc
  obtain ⟨-, hu⟩ | ⟨i, -, -, hu⟩ | ⟨i, hslot, hne, hu⟩ | ⟨-, hu⟩ | ⟨-, hu⟩ := clockEdge_cases s <;> rw [hu]
  · exact ⟨hpos, fun _ => rfl⟩
  · rw [accrual_eq]
    exact ⟨hpos, fun _ => rfl⟩
  · have hle : (s.dwt + 1) % 2 ^ dwtWidth s.cfg ≤ s.dwt + 1 := Nat.mod_le _ _
    refine ⟨show (s.dwt + 1) % 2 ^ dwtWidth s.cfg < s.cfg.dwellCycles by omega, fun hph => ?_⟩
    simp [slotOf_of_update (show s.ph = 0b100 from hph)] at hslot
  · exact ⟨(updateBlock_cfg _ s).symm ▸ hpos, fun _ => rfl⟩
  · exact ⟨hpos, fun _ => rfl⟩

/-- Settles O54: the countdown's part of the invariant by the phase entered, and the dwell timer, strobe and
lines as every phase leaves them. -/
theorem stepKeepsTheInvariant : Obligations.StepKeepsTheInvariant := by
  intro s t hinv hstep
  obtain ⟨-, p, ps, n, rfl⟩ := phaseStep_of_step hstep
  obtain ⟨hc, hph, hrelay, hlive, hactive, hacc⟩ := hinv.countdown.phaseStep
  exact ⟨hc, hph, phaseStep_dwt s, hrelay, hlive, hactive, hacc, phaseStep_saveStb s, phaseStep_displayLines s⟩

/-- Settles O55: the countdown's part as at phase level, a slot's inner edges changing nothing it reads. -/
theorem clockKeepsTheInvariant : Obligations.ClockKeepsTheInvariant := by
  intro s t hinv hclock
  obtain ⟨hcfg, p, ps, n, rfl⟩ := clockEdge_of_clock hclock
  obtain ⟨hc, hph, hrelay, hlive, hactive, hacc⟩ := hinv.countdown.clockEdge
  obtain ⟨hdwt, hupd⟩ := clockEdge_dwt hcfg hinv.dwell
  exact ⟨hc, hph, hdwt, hupd, hrelay, hlive, hactive, hacc, clockEdge_saveStb s⟩

end Sys2Proof.Machine
end

section
/-! PROOFS. The state family: legal digits, and what a step can write. -/

namespace Sys2Proof.Machine

/-! ### Legal digits (R36, R40) -/

/-- The digit a chain writes at this place is legal, and `ILLEGAL_DIGIT` is not asked. -/
def DigitStep.legal (r : DigitStep) : Bool :=
  match r with
  | .carry d => decide (d.toNat ≤ 9)
  | .stop d => decide (d.toNat ≤ 9)
  | .illegal => false

theorem incDigit_legal : ∀ d : Digit, d.toNat ≤ 9 → (incDigit d).legal = true := by decide

theorem decDigit_legal : ∀ d : Digit, d.toNat ≤ 9 → (decDigit d).legal = true := by decide

/-- A chain whose digit steps keep the legal digits keeps a list of them. -/
theorem chain_legal {f : Digit → DigitStep} (hf : ∀ d : Digit, d.toNat ≤ 9 → (f d).legal = true)
    (literal : Digit → Digit) (mode : IllegalDigit) (ps : List (Digit × Digit))
    (hps : ∀ p ∈ ps, p.1.toNat ≤ 9) : ∀ d ∈ chain f literal mode ps, d.toNat ≤ 9 := by
  induction ps with
  | nil => simp [chain]
  | cons p ps ih =>
    obtain ⟨d, free⟩ := p
    have hd := hf d (hps (d, free) (by simp))
    have hrest : ∀ q ∈ ps, q.1.toNat ≤ 9 := fun q hq => hps q (List.mem_cons_of_mem _ hq)
    cases hstep : f d with
    | carry e =>
      rw [hstep] at hd
      simpa [chain, hstep] using ⟨of_decide_eq_true hd, ih hrest⟩
    | stop e =>
      rw [hstep] at hd
      have hcopy : ∀ x ∈ ps.map Prod.fst, x.toNat ≤ 9 := by simpa using fun a b hab => hrest (a, b) hab
      simpa [chain, hstep] using ⟨of_decide_eq_true hd, by simpa using hcopy⟩
    | illegal => simp [hstep, DigitStep.legal] at hd

theorem legalTime_ofDigits {ds : List Digit} (h : ∀ d ∈ ds, d.toNat ≤ 9) : legalTime (ofDigits ds) = true := by
  have hget : ∀ i, (ds.getD i 0).toNat ≤ 9 := by
    intro i
    rw [List.getD_eq_getElem?_getD]
    cases hi : ds[i]? with
    | none => simp
    | some d => exact h d (List.mem_of_getElem? hi)
  exact (legalTime_iff _).2 ⟨hget 0, hget 1, hget 2, hget 3⟩

theorem legal_of_mem_zip_digits {x : TimeValue} (h : legalTime x = true) (free : TimeValue) :
    ∀ p ∈ (digits x).zip (digits free), p.1.toNat ≤ 9 := by
  obtain ⟨h0, h1, h2, h3⟩ := (legalTime_iff x).1 h
  intro p hp
  have hmem : p.1 ∈ digits x := (List.of_mem_zip hp).1
  simp only [digits, List.mem_cons, List.not_mem_nil, or_false] at hmem
  obtain hd | hd | hd | hd := hmem <;> rwa [hd]

theorem legalTime_incTime {x : TimeValue} (h : legalTime x = true) (mode : IllegalDigit) (free : TimeValue) :
    legalTime (incTime mode free x) = true :=
  legalTime_ofDigits (chain_legal incDigit_legal _ mode _ (legal_of_mem_zip_digits h free))

theorem legalTime_decTime {x : TimeValue} (h : legalTime x = true) (mode : IllegalDigit) (free : TimeValue) :
    legalTime (decTime mode free x) = true :=
  legalTime_ofDigits (chain_legal decDigit_legal _ mode _ (legal_of_mem_zip_digits h free))

theorem legalTime_fireAction_t {s : State} (h : legalTime s.t = true) (k : Button) :
    legalTime (fireAction k s).t = true := by
  obtain ⟨-, ⟨-, hu⟩ | ⟨-, hu⟩ | ⟨-, hu⟩ | ⟨-, hu⟩⟩ | ⟨-, ⟨-, hu⟩ | ⟨-, hu⟩⟩ := fireAction_cases k s <;> rw [hu]
  · exact legalTime_incTime h _ _
  · exact legalTime_decTime h _ _
  all_goals exact h

theorem legalTime_press_t {s : State} (h : legalTime s.t = true) (b : BitVec 4) (k : Button) :
    legalTime (press b k s).t = true := legalTime_fireAction_t (s := pollButton b k s) h k

theorem legalTime_pollAll_t {s : State} (h : legalTime s.t = true) (b : BitVec 4) :
    legalTime (pollAll b s).t = true :=
  legalTime_press_t (legalTime_press_t (legalTime_press_t (legalTime_press_t h b .inc) b .dec) b .save) b .ss

/-- `L` comes from `L`, from DEC of it, or from `T` as edited. -/
theorem CountdownChange.legalTime_l {b : BitVec 4} {s t : State} (h : CountdownChange b s t)
    (hl : legalTime s.l = true) (ht : legalTime t.t = true) : legalTime t.l = true := by
  cases h with
  | stop fired was l acc now => rw [l, hl]
  | start fired was nonzero l acc now => rw [l, ht]
  | autostop was due zero l acc now =>
    obtain ⟨free, l⟩ := l
    rw [l, legalTime_decTime hl]
  | countDown was due nonzero l acc now =>
    obtain ⟨free, l⟩ := l
    rw [l, legalTime_decTime hl]
  | keep idle l acc now => rw [l, hl]

section
variable {s : State} (ht : legalTime s.t = true) (hl : legalTime s.l = true)
  (hinit : s.ports.rst = true → legalTime (unpack s.ports.initTimeout) = true)
include ht hl

theorem legalTime_updateBlock (b : BitVec 4) :
    legalTime (updateBlock b s).t = true ∧ legalTime (updateBlock b s).l = true := by
  have ht' : legalTime (updateBlock b s).t = true := by
    rw [updateBlock_t]
    exact legalTime_pollAll_t (s := enterUpdate s) ht b
  exact ⟨ht', (updateBlock_countdownChange b s).legalTime_l hl ht'⟩

include hinit

theorem legalTime_phaseStep : legalTime (phaseStep s).t = true ∧ legalTime (phaseStep s).l = true := by
  obtain ⟨hrst, hu⟩ | ⟨-, i, -, hu⟩ | ⟨-, -, hu⟩ | ⟨-, -, hu⟩ := phaseStep_cases s <;> rw [hu]
  · exact ⟨hinit hrst, rfl⟩
  · rw [slotPhase_eq]
    exact ⟨ht, hl⟩
  · exact legalTime_updateBlock ht hl _
  · exact ⟨ht, hl⟩

theorem legalTime_clockEdge : legalTime (clockEdge s).t = true ∧ legalTime (clockEdge s).l = true := by
  obtain ⟨hrst, hu⟩ | ⟨i, -, -, hu⟩ | ⟨i, -, -, hu⟩ | ⟨-, hu⟩ | ⟨-, hu⟩ := clockEdge_cases s <;> rw [hu]
  · exact ⟨hinit hrst, rfl⟩
  · rw [accrual_eq]
    exact ⟨ht, hl⟩
  · exact ⟨ht, hl⟩
  · exact legalTime_updateBlock ht hl _
  · exact ⟨ht, hl⟩

end

/-- Settles O56: INC and DEC keep legal digits, START copies `T`, and a reset loads a legal value. -/
theorem legalDigitsStayLegal : Obligations.LegalDigitsStayLegal := by
  rintro s t ht hl hinit (hstep | hclock)
  · obtain ⟨-, p, ps, n, rfl⟩ := phaseStep_of_step hstep
    exact legalTime_phaseStep ht hl hinit
  · obtain ⟨-, p, ps, n, rfl⟩ := clockEdge_of_clock hclock
    exact legalTime_clockEdge ht hl hinit

/-! ### What a step can write -/

/-- Settles O37, by the phase entered, and in `UPD` by what becomes of the countdown. -/
theorem accumulatorLifecycle : Obligations.AccumulatorLifecycle := by
  intro s t hstep
  obtain ⟨-, p, ps, n, rfl⟩ := phaseStep_of_step hstep
  obtain ⟨hrst, hu⟩ | ⟨hrst, i, hslot, hu⟩ | ⟨hrst, hph, hu⟩ | ⟨-, -, hu⟩ := phaseStep_cases s <;> rw [hu]
  · exact .inr (.inr (.inl ⟨rfl, .inl hrst⟩))
  · rw [slotPhase_eq]
    cases ha : s.active
    · exact .inl (by simp [ha])
    · have hlt : s.ph.toNat < 4 := by rw [toNat_of_slotOf hslot]; exact i.isLt
      exact .inr (.inl ⟨hrst, hlt, rfl, by simp [ha]⟩)
  · cases updateBlock_countdownChange s.ports.btnN s with
    | stop fired was l acc now => exact .inl acc
    | start fired was nonzero l acc now => exact .inr (.inr (.inl ⟨acc, .inr ⟨hph, was, now⟩⟩))
    | autostop was due zero l acc now => exact .inr (.inr (.inr ⟨hrst, hph, was, due, acc⟩))
    | countDown was due nonzero l acc now => exact .inr (.inr (.inr ⟨hrst, hph, was, due, acc⟩))
    | keep idle l acc now => exact .inl acc
  · exact .inl rfl

/-- A START is the one way up (R201, R265). -/
theorem CountdownChange.of_rise {b : BitVec 4} {s t : State} (h : CountdownChange b s t)
    (hwas : s.active = false) (hnow : t.active = true) :
    fires s b .ss = true ∧ isZero t.t = false ∧ t.l = t.t := by
  cases h with
  | stop fired was l acc now => simp [hwas] at was
  | start fired was nonzero l acc now => exact ⟨fired, nonzero, l⟩
  | autostop was due zero l acc now => simp [hwas] at was
  | countDown was due nonzero l acc now => simp [hwas] at was
  | keep idle l acc now => simp [hwas, hnow] at now

/-- A STOP and the automatic stop are the ways down (R203, R205). -/
theorem CountdownChange.of_fall {b : BitVec 4} {s t : State} (h : CountdownChange b s t)
    (hwas : s.active = true) (hnow : t.active = false) :
    fires s b .ss = true ∨ (1000 ≤ s.acc.toNat ∧ isZero t.l = true) := by
  cases h with
  | stop fired was l acc now => exact .inl fired
  | start fired was nonzero l acc now => exact .inl fired
  | autostop was due zero l acc now => exact .inr ⟨due, zero⟩
  | countDown was due nonzero l acc now => simp [hnow] at now
  | keep idle l acc now => simp [hwas, hnow] at now

/-- What a phase that is neither reset nor `UPD` leaves alone: every field but those set aside here. -/
theorem phaseStep_frame_of_not_update {s : State} (hrst : s.ports.rst = false) (hph : s.ph ≠ 0b100) :
    { phaseStep s with ph := s.ph, dwt := s.dwt, acc := s.acc, saveStb := s.saveStb, btnSync := s.btnSync,
                       seg := s.seg, digEn := s.digEn } = s := by
  obtain ⟨hrst', -⟩ | ⟨-, i, -, hu⟩ | ⟨-, hph', -⟩ | ⟨-, -, hu⟩ := phaseStep_cases s
  · simp [hrst] at hrst'
  · rw [hu, slotPhase_eq]
    rfl
  · exact absurd hph' hph
  · rw [hu]
    rfl

theorem phaseStep_active_of_not_update {s : State} (hrst : s.ports.rst = false) (hph : s.ph ≠ 0b100) :
    (phaseStep s).active = s.active := by
  have hframe := congrArg State.active (phaseStep_frame_of_not_update hrst hph)
  exact hframe

/-- Settles O38: only a reset and the update phase write `active`, and there START raises it, STOP and the
automatic stop clear it. -/
theorem modeChangesOnlyByStartStopReset : Obligations.ModeChangesOnlyByStartStopReset := by
  intro s t hstep
  obtain ⟨-, p, ps, n, rfl⟩ := phaseStep_of_step hstep
  cases hrst : s.ports.rst
  · by_cases hph : s.ph = 0b100
    · have hchange := updateBlock_countdownChange s.ports.btnN s
      rw [phaseStep_of_update hrst hph]
      exact ⟨fun hwas hnow => ⟨rfl, hph, hchange.of_rise hwas hnow⟩,
        fun hwas hnow => .inr ⟨hph, hchange.of_fall hwas hnow⟩⟩
    · simp +contextual [phaseStep_active_of_not_update hrst hph]
  · rw [phaseStep_of_rst hrst]
    exact ⟨fun _ hnow => absurd (show false = true from hnow) (by decide), fun _ _ => .inl rfl⟩

/-- Settles O49: the frame of the phase step, the environment's own fields set aside. -/
theorem onlyUpdateWritesTheOtherRegisters : Obligations.OnlyUpdateWritesTheOtherRegisters := by
  intro s t hrst hph hstep
  obtain ⟨-, p, ps, n, rfl⟩ := phaseStep_of_step hstep
  have hframe := phaseStep_frame_of_not_update hrst hph
  exact congrArg (fun u => { u with ports := s.ports, script := s.script, portDraws := s.portDraws }) hframe

end Sys2Proof.Machine
end

section
/-! PROOFS. The state family: reset, the dwell timer, and what no register depends on. -/

namespace Sys2Proof.Machine

/-! ### Reset -/

/-- A reset edge forgets the reset edge before it. -/
theorem clockRun_reset_last (ps : List Ports) {p : Ports} (hp : p.rst = true) (hps : ∀ q ∈ ps, q.rst = true)
    (s : State) : clockRun (ps ++ [p]) s = clockRun [p] s := by
  induction ps generalizing s with
  | nil => rfl
  | cons q qs ih =>
    have hq : clockEdge { s with ports := q } = resetBlock { s with ports := q } := if_pos (hps q (by simp))
    rw [List.cons_append, clockRun_cons, ih (fun r hr => hps r (List.mem_cons_of_mem q hr)), hq]
    have hlast (u : State) : clockRun [p] u = resetBlock { u with ports := p } := if_pos hp
    rw [hlast, hlast]
    rfl

theorem outputs_of_rst {s : State} (hrst : s.ports.rst = true) : (outputs s).seg = 0 ∧ (outputs s).digEn = 0 ∧
    (outputs s).relay = false ∧ (outputs s).saveStb = false := by
  simp [outputs, segDecode, digEnDecode, hrst]

/-- Settles O52: the reset row is `resetBlock`, and so are a step and a clock edge under `rst`. -/
theorem resetSetsEveryRegister : Obligations.ResetSetsEveryRegister := by
  refine ⟨fun s => ⟨resetBlock s, rfl, rfl, rfl, rfl, rfl, rfl, rfl, rfl, rfl, rfl, rfl, rfl, rfl, rfl, rfl,
    fun hrst => ?_, fun hrst hc => ?_⟩, fun s ps p hp hps => clockRun_reset_last ps hp hps s⟩
  · obtain ⟨hseg, hdig, hrelay, hstb⟩ := outputs_of_rst hrst
    exact ⟨hseg, hdig, hrelay, hstb, if_pos hrst⟩
  · have hedge : clockEdge s = resetBlock s := if_pos hrst
    exact ⟨phaseStep_of_rst hrst ▸ step_of_legalConfig hc (exec_fetch s), hedge ▸ clock_of_legalConfig hc⟩

/-- Settles O53: the reset state is the reset of itself, so the countdown's part of the invariants holds. -/
theorem resetStateIsSafe : Obligations.ResetStateIsSafe := by
  have hinv : CountdownInv State.reset := CountdownInv.resetBlock (s := State.reset) rfl
  obtain ⟨hc, hph, hrelay, hlive, hactive, hacc⟩ := hinv
  exact ⟨rfl, rfl, rfl, rfl, rfl, rfl, rfl, rfl, rfl, rfl, rfl,
    ⟨hc, hph, rfl, hrelay, hlive, hactive, hacc, fun _ => rfl, .inl ⟨rfl, rfl⟩⟩,
    ⟨hc, hph, by decide, fun _ => rfl, hrelay, hlive, hactive, hacc, fun _ => ⟨rfl, rfl⟩⟩⟩

/-! ### The dwell timer -/

theorem one_le_dwtWidth (c : Config) : 1 ≤ dwtWidth c := by
  unfold dwtWidth
  split <;> omega

/-- No narrower timer holds the count `DWELL_CYCLES - 1` (R27). -/
theorem dwtWidth_le {c : Config} {w : Nat} (hw : 1 ≤ w) (hfits : c.dwellCycles ≤ 2 ^ w) : dwtWidth c ≤ w := by
  unfold dwtWidth
  split
  · exact hw
  · have hlog : Nat.log2 (c.dwellCycles - 1) < w := (Nat.log2_lt (by omega)).2 (by omega)
    omega

/-- Settles O60: an edge before the slot's last drives what the output decode names for the slot. -/
theorem dwellTimerCountsUp : Obligations.DwellTimerCountsUp := by
  refine ⟨fun s i hrst hslot hdwt => ?_, fun c _ =>
    ⟨one_le_dwtWidth c, dwellCycles_le_two_pow_dwtWidth c, fun w hw hfits => dwtWidth_le hw hfits⟩⟩
  have hdig : digEnDecode s = onehot4 i := by simp [digEnDecode, hrst, hslot]
  have hseg : segDecode s = codec s.cfg.glyphs (shownDigit s i) := by simp [segDecode, hrst, hslot]
  rw [clockEdge_before_slot_end hrst hslot hdwt, hdig, hseg]
  rfl

/-! ### Signals and lines -/

/-- An operation that reads no line and no signal: the registers it leaves depend on the registers alone. -/
def SignalBlind (f : State → State) : Prop := ∀ s, registers (f s) = registers (f (registers s))

theorem SignalBlind.congr {f : State → State} (hf : SignalBlind f) {s u : State}
    (h : registers s = registers u) : registers (f s) = registers (f u) := by
  rw [hf s, h, ← hf u]

theorem SignalBlind.comp {f g : State → State} (hf : SignalBlind f) (hg : SignalBlind g) :
    SignalBlind fun s => f (g s) := fun s => hf.congr (hg s)

theorem signalBlind_enterUpdate : SignalBlind enterUpdate := fun _ => rfl

/-- The action reads the bit its own poll wrote. -/
theorem signalBlind_press (b : BitVec 4) (k : Button) : SignalBlind (press b k) := by
  intro s
  have hpoll (fired latch : Bool) : registers (fireAction k (pollWrite k fired latch s)) =
      registers (fireAction k (pollWrite k fired latch (registers s))) := by
    cases k <;> simp only [fireAction, pollWrite_fire, getBit_setBit_same] <;> cases fired <;> rfl
  rw [press, press, pollButton_eq, pollButton_eq]
  exact hpoll _ _

/-- The dispatch reads the bit the poll of SS wrote, and ISZERO(T) as it evaluates it. -/
theorem signalBlind_dispatch_press (b : BitVec 4) : SignalBlind fun s => dispatch (press b .ss s) := by
  intro s
  have hpoll (fired latch : Bool) : registers (dispatch (pollWrite .ss fired latch s)) =
      registers (dispatch (pollWrite .ss fired latch (registers s))) := by
    simp only [dispatch, evalIsZero_fire, pollWrite_fire, getBit_setBit_same, apply_ite registers]
    rfl
  change registers (dispatch (pollButton b .ss s)) = registers (dispatch (pollButton b .ss (registers s)))
  rw [pollButton_eq, pollButton_eq]
  exact hpoll _ _

theorem signalBlind_tick : SignalBlind tick := by
  intro s
  simp only [tick, apply_ite registers]
  rfl

theorem signalBlind_updateBlock (b : BitVec 4) : SignalBlind (updateBlock b) := by
  intro s
  have hv := (signalBlind_tick.comp ((signalBlind_dispatch_press b).comp ((signalBlind_press b .save).comp
    ((signalBlind_press b .dec).comp ((signalBlind_press b .inc).comp signalBlind_enterUpdate))))) s
  rw [updateBlock_eq, updateBlock_eq]
  exact congrArg (fun v => { v with
    relay := if v.active = s.active then s.relay else v.active, ph := 0b000 }) hv

theorem signalBlind_phaseStep : SignalBlind phaseStep := by
  intro s
  obtain ⟨hrst, hu⟩ | ⟨hrst, i, hslot, hu⟩ | ⟨hrst, hph, hu⟩ | ⟨hrst, hph, hu⟩ := phaseStep_cases s <;> rw [hu]
  · rw [phaseStep_of_rst (s := registers s) hrst]
    rfl
  · rw [phaseStep_of_slot (s := registers s) hrst hslot, slotPhase_eq, slotPhase_eq]
    rfl
  · rw [phaseStep_of_update (s := registers s) hrst hph]
    exact congrArg endPhase (signalBlind_updateBlock s.ports.btnN s)
  · rw [phaseStep_of_illegal (s := registers s) hrst hph]
    rfl

theorem signalBlind_nextPorts : SignalBlind nextPorts := by
  intro s
  unfold nextPorts
  cases hscript : s.script <;> simp only [registers, withSignals, hscript]

/-- Settles O51: a step is blind to lines and signals, and setting them leaves the registers as they are. -/
theorem signalsCarryNothing : Obligations.SignalsCarryNothing := by
  intro s t seg digEn fire a0 y z hstep
  obtain ⟨hc, u, hu, rfl⟩ := step_next hstep
  obtain rfl : phaseStep s = u := by simpa [exec_fetch] using hu
  exact ⟨_, step_of_legalConfig hc (exec_fetch _),
    (signalBlind_nextPorts.comp signalBlind_phaseStep).congr rfl⟩

/-! ### The countdown after a stop -/

/-- While Inactive the dispatch starts the countdown or leaves it. -/
theorem dispatch_of_idle {s : State} (h : s.active = false) : dispatch s =
    if getBit s.fire .ss && !isZero s.t then startCountdown (evalIsZero s.t s) else evalIsZero s.t s := by
  simp [dispatch, h]

theorem slotPhase_of_idle {s : State} (h : s.active = false) (i : Fin 4) :
    slotPhase i s = endPhase { clearStrobe (driveSlot i s) with ph := phaseAfterSlot i } := by
  simp [slotPhase_eq, clearStrobe, h]

/-- `s` with the live countdown and the accumulator replaced. -/
def withCountdown (l : TimeValue) (acc : BitVec 16) (s : State) : State := { s with l := l, acc := acc }

section
variable (l : TimeValue) (acc : BitVec 16)

theorem fireAction_withCountdown (k : Button) (s : State) :
    fireAction k (withCountdown l acc s) = withCountdown l acc (fireAction k s) := by
  cases k <;> simp only [fireAction, apply_ite (withCountdown l acc)] <;> rfl

theorem press_withCountdown (b : BitVec 4) (k : Button) (s : State) :
    press b k (withCountdown l acc s) = withCountdown l acc (press b k s) :=
  fireAction_withCountdown l acc k (pollButton b k s)

theorem pollAll_withCountdown (b : BitVec 4) (s : State) :
    pollAll b (withCountdown l acc s) = withCountdown l acc (pollAll b s) := by
  simp only [pollAll, press_withCountdown]

/-- While Inactive the dispatch overwrites both or leaves both. -/
theorem tick_dispatch_withCountdown {s : State} (h : s.active = false) :
    tick (dispatch (withCountdown l acc s)) = tick (dispatch s) ∨
    ((tick (dispatch s)).active = false ∧
      tick (dispatch (withCountdown l acc s)) = withCountdown l acc (tick (dispatch s))) := by
  have hstart : dispatch (withCountdown l acc s) = if getBit s.fire .ss && !isZero s.t
      then startCountdown (evalIsZero s.t s) else withCountdown l acc (evalIsZero s.t s) :=
    dispatch_of_idle (s := withCountdown l acc s) h
  rw [hstart, dispatch_of_idle h]
  split
  · exact .inl rfl
  · rw [tick_of_not_due (s := withCountdown l acc (evalIsZero s.t s)) (.inl h),
      tick_of_not_due (s := evalIsZero s.t s) (.inl h)]
    exact .inr ⟨h, rfl⟩

theorem updateBlock_withCountdown (b : BitVec 4) {s : State} (h : s.active = false) :
    updateBlock b (withCountdown l acc s) = updateBlock b s ∨
    ((updateBlock b s).active = false ∧
      updateBlock b (withCountdown l acc s) = withCountdown l acc (updateBlock b s)) := by
  have hactive : (pollAll b (enterUpdate s)).active = false := (pollAll_active b _).trans h
  have hpoll : pollAll b (enterUpdate (withCountdown l acc s)) = withCountdown l acc (pollAll b (enterUpdate s)) :=
    pollAll_withCountdown l acc b (enterUpdate s)
  rw [updateBlock_eq, updateBlock_eq, hpoll]
  obtain hboth | ⟨hidle, hkept⟩ := tick_dispatch_withCountdown l acc hactive
  · rw [hboth]
    exact .inl rfl
  · rw [hkept]
    exact .inr ⟨hidle, rfl⟩

theorem shownDigit_withCountdown {s : State} (h : s.active = false) (i : Fin 4) :
    shownDigit (withCountdown l acc s) i = shownDigit s i := by
  have hsource : source (withCountdown l acc s) = source s := by simp [source, withCountdown, h]
  simp only [shownDigit, hsource]

theorem driveSlot_withCountdown {s : State} (h : s.active = false) (i : Fin 4) :
    driveSlot i (withCountdown l acc s) = withCountdown l acc (driveSlot i s) := by
  rw [driveSlot, shownDigit_withCountdown l acc h]
  rfl

theorem phaseStep_withCountdown {s : State} (h : s.active = false) :
    phaseStep (withCountdown l acc s) = phaseStep s ∨
    ((phaseStep s).active = false ∧ phaseStep (withCountdown l acc s) = withCountdown l acc (phaseStep s)) := by
  obtain ⟨hrst, hu⟩ | ⟨hrst, i, hslot, hu⟩ | ⟨hrst, hph, hu⟩ | ⟨hrst, hph, hu⟩ := phaseStep_cases s <;> rw [hu]
  · rw [phaseStep_of_rst (s := withCountdown l acc s) hrst]
    exact .inl rfl
  · rw [phaseStep_of_slot (s := withCountdown l acc s) hrst hslot]
    rw [slotPhase_of_idle h, slotPhase_of_idle (s := withCountdown l acc s) h, driveSlot_withCountdown l acc h]
    exact .inr ⟨h, rfl⟩
  · rw [phaseStep_of_update (s := withCountdown l acc s) hrst hph]
    obtain hboth | ⟨hidle, hkept⟩ := updateBlock_withCountdown l acc s.ports.btnN h
    · exact .inl (congrArg endPhase hboth)
    · exact .inr ⟨hidle, congrArg endPhase hkept⟩
  · rw [phaseStep_of_illegal (s := withCountdown l acc s) hrst hph]
    exact .inr ⟨h, rfl⟩

theorem outputs_withCountdown {s : State} (h : s.active = false) :
    outputs (withCountdown l acc s) = outputs s := by
  have hseg : segDecode (withCountdown l acc s) = segDecode s := by
    simp only [segDecode, shownDigit_withCountdown l acc h]
    rfl
  rw [outputs, hseg]
  rfl

theorem nextPorts_withCountdown (s : State) :
    nextPorts (withCountdown l acc s) = withCountdown l acc (nextPorts s) := by
  unfold nextPorts
  cases hscript : s.script <;> simp only [withCountdown, hscript]

end

/-- Settles O41: every stage of an Inactive phase but START and reset carries `L` and `acc` through unread. -/
theorem stoppedCountdownIsUnobservable : Obligations.StoppedCountdownIsUnobservable := by
  intro s t l acc hidle hstep
  obtain ⟨hc, u, hu, rfl⟩ := step_next hstep
  obtain rfl : phaseStep s = u := by simpa [exec_fetch] using hu
  refine ⟨outputs_withCountdown l acc hidle, _, step_of_legalConfig hc (exec_fetch (withCountdown l acc s)), ?_⟩
  obtain hboth | ⟨hstill, hkept⟩ := phaseStep_withCountdown l acc hidle
  · exact .inl (congrArg nextPorts hboth)
  · rw [hkept, nextPorts_withCountdown]
    obtain ⟨p, ps, n, henv⟩ := nextPorts_eq (phaseStep s)
    exact .inr ⟨henv ▸ hstill, rfl⟩

end Sys2Proof.Machine
end

section
/-! PROOFS. The memory family (spec/20_memory.md): the update phase as the rows of the table it runs, and
what it leaves in the save registers. -/

namespace Sys2Proof.Machine

/-! ### The stages of the update phase as rows -/

/-- The row the SS3 vector selects, run after ISZERO(T), is the dispatch (R79, R200 to R203). -/
theorem exec_decodeSs_ssVector (s : State) :
    exec (decodeSs (ssVector s)) (evalIsZero s.t s) = .next (dispatch s) := by
  unfold ssVector
  obtain ⟨hf, ha, hd⟩ | ⟨hf, ha, hz, hd⟩ | ⟨hf | ⟨ha, hz⟩, hd⟩ := dispatch_cases s <;> rw [hd]
  · rw [hf, ha]
    cases zT s <;> rfl
  · rw [hf, ha, show zT s = false from hz]
    rfl
  · rw [hf]
    cases s.active <;> cases zT s <;> rfl
  · rw [ha, show zT s = true from hz]
    cases getBit s.fire .ss <;> rfl

theorem ge_eq_true_of_le {s : State} (h : 1000 ≤ s.acc.toNat) : ge s = true := decide_eq_true h

theorem ge_eq_false_of_lt {s : State} (h : s.acc.toNat < 1000) : ge s = false := decide_eq_false (Nat.not_le.2 h)

/-- The row the TICK3 vector selects is the tick (R80, R204, R205). -/
theorem exec_decodeTick_tickVector (s : State) :
    exec (decodeTick (tickVector s)) s = .next (tick s) := by
  unfold tickVector
  obtain ⟨ha, hdue, hz, ht⟩ | ⟨ha, hdue, hz, ht⟩ | ⟨ha | hearly, ht⟩ := tick_cases s <;> rw [ht]
  · rw [ha, ge_eq_true_of_le hdue, show zLNext s = true from hz]
    rfl
  · rw [ha, ge_eq_true_of_le hdue, show zLNext s = false from hz]
    rfl
  · rw [ha]
    cases ge s <;> cases zLNext s <;> rfl
  · rw [ge_eq_false_of_lt hearly]
    cases s.active <;> cases zLNext s <;> rfl

/-- The row the REL2 vector selects is the relay's write on change (R81, R238). -/
theorem exec_decodeRelay_relayVector (s : State) :
    exec (decodeRelay (relayVector s)) s = .next (relaySync s) := by
  unfold relayVector relaySync
  cases s.a0 <;> cases s.active <;> rfl

/-! ### The ports through the update phase -/

@[simp] theorem press_ports (b : BitVec 4) (k : Button) (s : State) : (press b k s).ports = s.ports := by
  rw [press_frame]
@[simp] theorem pollAll_ports (b : BitVec 4) (s : State) : (pollAll b s).ports = s.ports := by simp [pollAll]
@[simp] theorem dispatch_ports (s : State) : (dispatch s).ports = s.ports := by rw [dispatch_frame]
@[simp] theorem tick_ports (s : State) : (tick s).ports = s.ports := by rw [tick_frame]
@[simp] theorem updateBlock_ports (b : BitVec 4) (s : State) : (updateBlock b s).ports = s.ports := by
  simp [updateBlock_eq]

/-- UPDATE is the update block on the level presented, the dwell timer and the synchronizer as a phase step
leaves them (logs 4, 5). -/
theorem exec_update (s : State) : exec .update s =
    .next { updateBlock s.ports.btnN s with dwt := 0, btnSync := ⟨s.ports.btnN, s.ports.btnN⟩ } := by
  simp only [exec, execUpdate, endPhase, updateBlock_ports]

/-- Settles O46: each stage of the update phase is the row its vector selects. -/
theorem updateRunsItsRowsInOrder : Obligations.UpdateRunsItsRowsInOrder := by
  rintro s b rfl
  exact ⟨_, _, _, _, _, _, _, _, rfl, rfl, rfl, rfl, rfl, ⟨_, rfl, exec_decodeSs_ssVector _⟩,
    exec_decodeTick_tickVector _, exec_decodeRelay_relayVector _, exec_update s⟩

/-! ### The save registers -/

@[simp] theorem dispatch_saveStb (s : State) : (dispatch s).saveStb = s.saveStb := by rw [dispatch_frame]
@[simp] theorem dispatch_saveData (s : State) : (dispatch s).saveData = s.saveData := by rw [dispatch_frame]
@[simp] theorem tick_saveStb (s : State) : (tick s).saveStb = s.saveStb := by rw [tick_frame]
@[simp] theorem tick_saveData (s : State) : (tick s).saveData = s.saveData := by rw [tick_frame]

/-- The actions of INC and DEC write `T`, and SS has none (R233, R234, R236). -/
theorem fireAction_of_ne_save {k : Button} (hk : k ≠ .save) (s : State) :
    fireAction k s = incTimeout s ∨ fireAction k s = decTimeout s ∨ fireAction k s = s := by
  have hcases := fireAction_cases k s
  tauto

/-- Only SAVE writes the save registers. -/
theorem press_save_registers_of_ne (b : BitVec 4) {k : Button} (hk : k ≠ .save) (s : State) :
    (press b k s).saveStb = s.saveStb ∧ (press b k s).saveData = s.saveData := by
  unfold press
  rw [pollButton_eq]
  obtain h | h | h := fireAction_of_ne_save hk (pollWrite k (allowed s k && pressed b k && getBit s.rel k)
    (!allowed s k || !pressed b k) s) <;> simp [h]

/-- A press of SAVE sets or clears the strobe, and saves `T` exactly if it fires (R235). -/
theorem press_save_registers (b : BitVec 4) (s : State) :
    (press b .save s).saveStb = fires s b .save ∧
    (press b .save s).saveData = (if fires s b .save then pack s.t else s.saveData) ∧
    (press b .save s).t = s.t := by
  have hpoll (fired latch : Bool) : let u := fireAction .save (pollWrite .save fired latch s)
      u.saveStb = fired ∧ u.saveData = (if fired then pack s.t else s.saveData) ∧ u.t = s.t := by
    cases fired <;> simp [fireAction]
  rw [press, pollButton_eq]
  exact hpoll _ _

/-- What SAVE reads to fire, the polls of INC and DEC before it leave alone. -/
theorem fires_save_press_of_ne (b : BitVec 4) {k : Button} (hk : k ≠ .save) (s : State) :
    fires (press b k s) b .save = fires s b .save := by
  simp only [fires, allowed, press_active, getBit_press_rel_other b hk.symm]

/-- The polls save `T` as INC and DEC leave it, since neither SAVE nor SS writes it. -/
theorem pollAll_save_registers (b : BitVec 4) (s : State) :
    (pollAll b s).saveStb = fires s b .save ∧
    (pollAll b s).saveData = if fires s b .save then pack (pollAll b s).t else s.saveData := by
  have hinc : Button.inc ≠ .save := by decide
  have hdec : Button.dec ≠ .save := by decide
  obtain ⟨-, hdata₁⟩ := press_save_registers_of_ne b hinc s
  obtain ⟨-, hdata₂⟩ := press_save_registers_of_ne b hdec (press b .inc s)
  obtain ⟨hstb₃, hdata₃, ht₃⟩ := press_save_registers b (press b .dec (press b .inc s))
  obtain ⟨hstb₄, hdata₄⟩ := press_save_registers_of_ne b (k := .ss) (by decide)
    (press b .save (press b .dec (press b .inc s)))
  rw [fires_save_press_of_ne b hdec, fires_save_press_of_ne b hinc] at hstb₃ hdata₃
  have ht : (pollAll b s).t = (press b .dec (press b .inc s)).t := ht₃
  rw [ht]
  exact ⟨hstb₄.trans hstb₃, by rw [pollAll, hdata₄, hdata₃, hdata₂, hdata₁]⟩

/-- The update phase raises the strobe exactly if SAVE fires, with `T` as the phase leaves it (R235). -/
theorem updateBlock_save_registers (b : BitVec 4) (s : State) :
    (updateBlock b s).saveStb = fires s b .save ∧
    (updateBlock b s).saveData = if fires s b .save then pack (updateBlock b s).t else s.saveData := by
  simp only [updateBlock_eq, tick_saveStb, tick_saveData, tick_t, dispatch_saveStb, dispatch_saveData, dispatch_t]
  exact pollAll_save_registers b (enterUpdate s)

theorem fires_save_iff (s : State) (b : BitVec 4) : fires s b .save = true ↔
    s.active = false ∧ pressed b .save = true ∧ getBit s.rel .save = true := by
  simp [fires, allowed, and_assoc]

/-- Settles O48, by the phase entered: a reset and a slot leave the strobe down, and the update phase raises
it exactly if SAVE fires. -/
theorem savesOnlyOnADebouncedPress : Obligations.SavesOnlyOnADebouncedPress := by
  intro s t hlegal hstep
  obtain ⟨-, p, ps, n, rfl⟩ := phaseStep_of_step hstep
  obtain ⟨hrst, hu⟩ | ⟨hrst, i, hslot, hu⟩ | ⟨hrst, hph, hu⟩ | ⟨-, hph, -⟩ := phaseStep_cases s
  · have hstb : (phaseStep s).saveStb = false := by rw [hu]; rfl
    simp [hstb, hrst]
  · have hph : s.ph ≠ 0b100 := fun hph => by simp [slotOf_of_update hph] at hslot
    have hdown : ¬ (phaseStep s).saveStb = true := by simp [hu, slotPhase_lines]
    have hdata := congrArg State.saveData (phaseStep_frame_of_not_update hrst hph)
    exact ⟨iff_of_false hdown fun ⟨_, hupd, _⟩ => hph hupd, fun hup => absurd hup hdown, fun _ _ => hdata⟩
  · obtain ⟨hstb, hdata⟩ := updateBlock_save_registers s.ports.btnN s
    rw [hu]
    refine ⟨by simp [hstb, fires_save_iff, hrst, hph], fun hup => ?_, fun hdown _ => ?_⟩
    · exact hdata.trans (if_pos (hstb ▸ hup))
    · exact hdata.trans (if_neg (by rw [← hstb]; simpa using hdown))
  · omega

end Sys2Proof.Machine
end

section
/-! PROOFS. The encoding family (spec/30_encoding.md): the formats of time values, digits and slots. -/

namespace Sys2Proof.Machine

/-! ### Words and time values -/

/-- Settles O1: the decoder computes each word's row, or the reason for which it is no word. -/
theorem writtenWordsDecode : Obligations.WrittenWordsDecode :=
  ⟨rfl, rfl, rfl, rfl, rfl, rfl, rfl, rfl, rfl, rfl, rfl, rfl, rfl, rfl, rfl, rfl⟩

theorem digitOf_unpack (tv : BitVec 16) (i : Fin 4) : digitOf (unpack tv) i = tv.extractLsb' (4 * i.val) 4 := by
  fin_cases i <;> rfl

theorem extractLsb'_pack (x : TimeValue) (i : Fin 4) : (pack x).extractLsb' (4 * i.val) 4 = digitOf x i := by
  rw [← digitOf_unpack, unpack_pack]

/-- The four digits of a word, put side by side, are the word. -/
theorem pack_unpack (tv : BitVec 16) : pack (unpack tv) = tv := by
  simp only [pack, unpack]
  iterate 3 rw [BitVec.extractLsb'_append_extractLsb'_eq_extractLsb' (by rfl)]
  exact BitVec.extractLsb'_eq_self

/-- Settles O4: `unpack` reads each digit from its bits, and `pack` is its inverse on both sides. -/
theorem packingPlacesEachDigit : Obligations.PackingPlacesEachDigit :=
  ⟨extractLsb'_pack, digitOf_unpack, pack_unpack, rfl, rfl, rfl⟩

/-! ### The DIGIT and ACC1 rows -/

/-- Settles O8: each row is the segment driver on its own digit, whose pattern the codec's table gives. -/
theorem digitRowsDriveTheirPatterns : Obligations.DigitRowsDriveTheirPatterns :=
  fun _ => ⟨rfl, rfl, rfl, rfl, rfl, rfl, rfl, rfl, rfl, rfl⟩

/-- The row a digit code decodes to drives that code's pattern, legal or not (R100 to R102). -/
theorem exec_decodeDigit (d : Digit) (s : State) : exec (decodeDigit d) s = .next (showDigit d s) := by
  obtain ⟨c⟩ := d
  fin_cases c <;> rfl

theorem addDwell_eq (s : State) :
    addDwell s = { s with acc := BitVec.ofNat 16 (s.acc.toNat + s.cfg.dwellMs) } := by
  simp [addDwell, BitVec.ofNat_add]

/-- The row `active` selects is the slot's accrual (R81, R125). -/
theorem exec_decodeAccrual (s : State) : exec (decodeAccrual s.active) s = .next (accrual s) := by
  unfold accrual
  cases s.active <;> rfl

/-- Settles O14: the row of `active` is the accrual, which adds the dwell while Active. -/
theorem accrualRowsAddTheDwell : Obligations.AccrualRowsAddTheDwell := by
  intro s
  rw [← addDwell_eq]
  refine ⟨rfl, rfl, fun hactive => ?_, fun hidle => ?_⟩ <;> rw [exec_decodeAccrual, accrual]
  · rw [if_pos hactive]
  · rw [if_neg (by simp [hidle])]

/-! ### What a slot shows -/

/-- Slot `i` shows `src[3-i]` (R77). -/
theorem shownDigit_eq (s : State) (i : Fin 4) : shownDigit s i = digitOf (source s) (3 - i) := by
  fin_cases i <;> rfl

theorem shownDigit_eq_extractLsb' (s : State) (i : Fin 4) :
    shownDigit s i = (pack (source s)).extractLsb' (12 - 4 * i.val) 4 := by
  have hplace : 4 * (3 - i).val = 12 - 4 * i.val := by fin_cases i <;> rfl
  rw [shownDigit_eq, ← extractLsb'_pack, hplace]

theorem slotOf_of_toNat {ph : BitVec 3} {i : Fin 4} (h : ph.toNat = i.val) : slotOf ph = some i := by
  revert ph i
  decide

theorem slotOf_of_four_le {ph : BitVec 3} (h : 4 ≤ ph.toNat) : slotOf ph = none := by
  revert ph
  decide

/-- In a slot one position is enabled, with the pattern of the digit shown there (R122). -/
theorem outputs_of_slot {s : State} {i : Fin 4} (hrst : s.ports.rst = false) (hslot : slotOf s.ph = some i) :
    (outputs s).seg = codec s.cfg.glyphs (shownDigit s i) ∧ (outputs s).digEn = onehot4 i := by
  simp [outputs, segDecode, digEnDecode, hrst, hslot]

/-- Outside the slots the display is dark (R122). -/
theorem outputs_of_no_slot {s : State} (hslot : slotOf s.ph = none) :
    (outputs s).seg = 0 ∧ (outputs s).digEn = 0 := by
  simp [outputs, segDecode, digEnDecode, hslot]

/-- Settles O13: slot `i` reads digit `3-i`, and digit `3-i` lies at the bits `[15-4i:12-4i]`. -/
theorem slotsReadTheReversedDigit : Obligations.SlotsReadTheReversedDigit := by
  refine fun s i => ⟨shownDigit_eq s i, shownDigit_eq_extractLsb' s i, fun hrst hph => ?_⟩
  obtain ⟨hseg, hdig⟩ := outputs_of_slot hrst (slotOf_of_toNat hph)
  rw [shownDigit_eq_extractLsb'] at hseg
  exact ⟨hdig, hseg⟩

/-! ### A slot's step -/

/-- Settles O12: the slot's step is the DIGIT row of the digit shown and the row of `active` after it. -/
theorem slotRunsItsRows : Obligations.SlotRunsItsRows := by
  intro s i hslot hrst
  refine ⟨_, _, exec_decodeDigit _ _, exec_decodeAccrual _, ?_⟩
  rw [exec_fetch, phaseStep_of_slot hrst hslot, slotPhase, accrual_eq, accrual_eq]
  rfl

/-- The lines a phase step leaves are those of the output decode it was entered with. -/
theorem phaseStep_lines (s : State) :
    (phaseStep s).seg = (outputs s).seg ∧ (phaseStep s).digEn = (outputs s).digEn := by
  obtain ⟨hrst, hu⟩ | ⟨hrst, i, hslot, hu⟩ | ⟨-, hph, hu⟩ | ⟨-, hph, hu⟩ := phaseStep_cases s <;> rw [hu]
  · obtain ⟨hseg, hdig, -⟩ := outputs_of_rst hrst
    exact ⟨hseg.symm, hdig.symm⟩
  · obtain ⟨hseg, hdig⟩ := outputs_of_slot hrst hslot
    simp [slotPhase_eq, hseg, hdig]
  · obtain ⟨hseg, hdig⟩ := outputs_of_no_slot (slotOf_of_update hph)
    simp [hseg, hdig]
  · obtain ⟨hseg, hdig⟩ := outputs_of_no_slot (slotOf_of_illegal hph).1
    simp [hseg, hdig]

/-- Settles O17: a step leaves the lines of the output decode, which is dark under `rst` and outside the
slots. -/
theorem linesFollowTheOutputDecode : Obligations.LinesFollowTheOutputDecode := by
  intro s t hstep
  obtain ⟨-, p, ps, n, rfl⟩ := phaseStep_of_step hstep
  obtain ⟨hseg, hdig⟩ := phaseStep_lines s
  refine ⟨hseg, hdig, fun hdark => ?_, fun hrst i hph => ?_⟩
  · obtain ⟨hseg₀, hdig₀⟩ : (outputs s).seg = 0 ∧ (outputs s).digEn = 0 := by
      obtain hrst | hph := hdark
      · obtain ⟨hseg₀, hdig₀, -⟩ := outputs_of_rst hrst
        exact ⟨hseg₀, hdig₀⟩
      · exact outputs_of_no_slot (slotOf_of_four_le hph)
    exact ⟨hdig.trans hdig₀, hseg.trans hseg₀⟩
  · obtain ⟨hsegᵢ, hdigᵢ⟩ := outputs_of_slot hrst (slotOf_of_toNat hph)
    rw [shownDigit_eq] at hsegᵢ
    exact ⟨hdig.trans hdigᵢ, hseg.trans hsegᵢ⟩

end Sys2Proof.Machine
end

section
/-! PROOFS. The encoding family (spec/30_encoding.md): the control vectors of the update phase, and the rows
they select. -/

namespace Sys2Proof.Machine

/-! ### POLL3 -/

theorem decodePoll_vec3 (k : Button) (allowed pressed latch : Bool) :
    decodePoll k (vec3 allowed pressed latch) =
      if !allowed then .pollDisallowed k pressed latch else if !pressed then .pollIdle k latch
      else if latch then .pollFire k else .pollSuppress k := by
  cases allowed <;> cases pressed <;> cases latch <;> rfl

/-- The row the POLL3 vector selects is the poll (R78, R151). -/
theorem exec_decodePoll_pollVector (b : BitVec 4) (k : Button) (s : State) :
    exec (decodePoll k (pollVector b k s)) s = .next (pollButton b k s) := by
  unfold pollVector pollButton
  cases allowed s k <;> cases pressed b k <;> cases getBit s.rel k <;> rfl

theorem getBit_pollButton (b : BitVec 4) (k : Button) (s : State) :
    getBit (pollButton b k s).fire k = (allowed s k && pressed b k && getBit s.rel k) ∧
    getBit (pollButton b k s).rel k = (!allowed s k || !pressed b k) := by
  simp [pollButton_eq]

/-- Settles O21, by the table of POLL3 and what a poll leaves in its two bits. -/
theorem pollRunsTheRowOfItsVector : Obligations.PollRunsTheRowOfItsVector := by
  intro s b k
  obtain ⟨hfire, hlatch⟩ := getBit_pollButton b k s
  refine ⟨vec3_bits _ _ _, exec_decodePoll_pollVector b k s, ?_⟩
  rw [hfire, hlatch, pollVector, decodePoll_vec3]
  refine ⟨fun ha hp hl => ?_, fun ha hp hl => ?_, fun ha hp => ?_, fun ha => ?_⟩
  · simp [ha, hp, hl]
  · simp [ha, hp, hl]
  · simp [ha, hp]
  · simp [ha]

/-! ### SS3 -/

/-- Settles O30: each row is its operation on the registers. -/
theorem dispatchRowsWriteTheirRegisters : Obligations.DispatchRowsWriteTheirRegisters :=
  fun _ _ _ => ⟨rfl, rfl, rfl, rfl⟩

theorem decodeSs_vec3 (fires active zero : Bool) :
    decodeSs (vec3 fires active zero) =
      if !fires then .ssNone active zero else if active then .stop zero
      else if zero then .startRefused else .start := by
  cases fires <;> cases active <;> cases zero <;> rfl

/-- The dispatch makes the tests of the SS3 table, on the state ISZERO(T) leaves (R200 to R203). -/
theorem dispatch_eq (s : State) : dispatch s =
    if !getBit s.fire .ss then evalIsZero s.t s else if s.active then deactivate (evalIsZero s.t s)
    else if isZero s.t then evalIsZero s.t s else startCountdown (evalIsZero s.t s) := by
  obtain ⟨hf, ha, h⟩ | ⟨hf, ha, hz, h⟩ | ⟨hf | ⟨ha, hz⟩, h⟩ := dispatch_cases s <;> rw [h]
  · simp [hf, ha]
  · simp [hf, ha, hz]
  · simp [hf]
  · simp [ha, hz]

/-- Settles O31: UPDATE is its stages in order, and the SS3 table makes the tests of the dispatch. -/
theorem dispatchRunsTheRowOfItsVector : Obligations.DispatchRunsTheRowOfItsVector := by
  refine ⟨fun s => rfl, fun s => ?_⟩
  refine ⟨vec3_bits _ _ _, ⟨_, rfl, exec_decodeSs_ssVector s⟩, ?_⟩
  rw [ssVector, zT, decodeSs_vec3, dispatch_eq]
  refine ⟨fun hf ha hz => ?_, fun hf ha hz => ?_, fun hf ha => ?_, fun hf => ?_⟩
  · simp [hf, ha, hz]
  · simp [hf, ha, hz]
  · simp [hf, ha]
  · simp [hf]

/-! ### TICK3 -/

/-- Settles O32: both taken rows evaluate DEC on `L` and move the result to `L`. -/
theorem tickRowsWriteTheirRegisters : Obligations.TickRowsWriteTheirRegisters :=
  fun _ _ _ => ⟨_, _, rfl, rfl, rfl, rfl, rfl⟩

theorem decodeTick_vec3 (active due zero : Bool) :
    decodeTick (vec3 active due zero) =
      if !active then .tickIdle due zero else if !due then .tickWait zero
      else if zero then .tickAutostop else .tickContinue := by
  cases active <;> cases due <;> cases zero <;> rfl

/-- A tick that is due counts down, and stops the countdown at zero (R204, R205). -/
theorem tick_of_due {s : State} (hactive : s.active = true) (hdue : 1000 ≤ s.acc.toNat) :
    tick s = if isZero (decIn s s.l) then deactivate (tickDown s) else tickDown s := by
  obtain ⟨-, -, hz, h⟩ | ⟨-, -, hz, h⟩ | ⟨hidle | hearly, -⟩ := tick_cases s
  · rw [h, if_pos hz]
  · rw [h, if_neg (by simp [hz])]
  · simp [hactive] at hidle
  · omega

theorem toNat_tickDown_acc {s : State} (hdue : 1000 ≤ s.acc.toNat) :
    (tickDown s).acc.toNat = s.acc.toNat - 1000 :=
  BitVec.toNat_sub_of_le hdue

/-- Settles O33: UPDATE is its stages in order, and the TICK3 table makes the tests of the tick. -/
theorem tickRunsTheRowOfItsVector : Obligations.TickRunsTheRowOfItsVector := by
  refine ⟨fun s => rfl, fun s => ?_⟩
  refine ⟨vec3_bits _ _ _, exec_decodeTick_tickVector s, ?_⟩
  rw [tickVector, ge, zLNext, decodeTick_vec3]
  refine ⟨fun ha hg hz => ?_, fun ha hg hz => ?_, fun ha hg => ?_, fun ha => ?_⟩
  · have hdue : 1000 ≤ s.acc.toNat := of_decide_eq_true hg
    rw [tick_of_due ha hdue, ha, hg, hz]
    exact ⟨rfl, rfl, toNat_tickDown_acc hdue, ha⟩
  · have hdue : 1000 ≤ s.acc.toNat := of_decide_eq_true hg
    rw [tick_of_due ha hdue, ha, hg, hz]
    exact ⟨rfl, rfl, toNat_tickDown_acc hdue, rfl⟩
  · have hearly : s.acc.toNat < 1000 := Nat.not_le.1 (of_decide_eq_false hg)
    exact ⟨by simp [ha, hg], tick_of_not_due (.inr hearly)⟩
  · exact ⟨by simp [ha], tick_of_not_due (.inl ha)⟩

/-! ### REL2 -/

/-- Settles O44: the sync is the row of the REL2 vector, and writes the relay exactly on a change. -/
theorem relayRowsWriteOnChangeOnly : Obligations.RelayRowsWriteOnChangeOnly := by
  refine fun s => ⟨rfl, rfl, rfl, rfl, exec_decodeRelay_relayVector s, fun h0 ha => ?_, fun h0 ha => ?_,
    fun hsame => ?_⟩
  · simp [relaySync_eq, h0, ha]
  · simp [relaySync_eq, h0, ha]
  · exact if_neg (by simp [hsame])

end Sys2Proof.Machine
end

section
/-! PROOFS. The digit codec (spec/40_digit_codec.md): which codes are blank, and reading a lit pattern back. -/

namespace Sys2Proof.Machine

/-! ### Blank codes -/

/-- Every legal code lights a segment, and no illegal one does (R101, R102). -/
theorem codec_eq_zero_iff (g : Glyphs) (d : Digit) : codec g d = 0 ↔ 10 ≤ d.toNat := by
  cases g <;> decide +revert

theorem showDigit_of_illegal {d : Digit} (hd : 10 ≤ d.toNat) (s : State) :
    showDigit d s = { s with seg := 0 } := by
  rw [showDigit, (codec_eq_zero_iff _ d).2 hd]

theorem decodeDigit_of_blankAB {d : Digit} (hd : d = 10 ∨ d = 11) : decodeDigit d = .encBlankAB d := by
  obtain rfl | rfl := hd <;> rfl

theorem decodeDigit_of_blankCF {d : Digit} (hd : 12 ≤ d.toNat) : decodeDigit d = .encBlankCF d := by
  decide +revert

/-- An illegal code's row drives the blank pattern and nothing else (R102). -/
theorem exec_decodeDigit_of_illegal {d : Digit} (hd : 10 ≤ d.toNat) (s : State) :
    exec (decodeDigit d) s = .next { s with seg := 0 } := by
  rw [exec_decodeDigit, showDigit_of_illegal hd]

/-- Settles O9: the codes decode to the two blank rows, and the row of an illegal code shows blank. -/
theorem illegalDigitsShowBlank : Obligations.IllegalDigitsShowBlank := by
  refine fun d s => ⟨fun hd => ?_, fun hd => ?_⟩
  · have hrow := decodeDigit_of_blankAB hd
    have hill : 10 ≤ d.toNat := by obtain rfl | rfl := hd <;> decide
    exact ⟨hrow, hrow ▸ exec_decodeDigit_of_illegal hill s⟩
  · have hrow := decodeDigit_of_blankCF hd
    have hill : 10 ≤ d.toNat := by omega
    exact ⟨hrow, hrow ▸ exec_decodeDigit_of_illegal hill s⟩

/-! ### Lit patterns -/

/-- The digit a lit pattern shows. One reader serves every glyph setting, for a variant of 6, 7 or 9 is no
other digit's pattern (R101, R103). The last line takes both patterns of 9, and the patterns of no digit. -/
def litDigit (p : BitVec 7) : Digit :=
  match p.toNat with
  | 0x3F => 0
  | 0x06 => 1
  | 0x5B => 2
  | 0x4F => 3
  | 0x66 => 4
  | 0x6D => 5
  | 0x7D | 0x7C => 6
  | 0x07 | 0x27 => 7
  | 0x7F => 8
  | _ => 9

theorem litDigit_codec (g : Glyphs) {d : Digit} (hd : d.toNat ≤ 9) : litDigit (codec g d) = d := by
  cases g <;> decide +revert

/-- A code with the pattern of a legal one is legal too, its pattern being lit, so both are read back from
the one pattern. -/
theorem eq_of_codec_eq {g : Glyphs} {d e : Digit} (hd : d.toNat ≤ 9) (h : codec g d = codec g e) : d = e := by
  have he : e.toNat ≤ 9 := by
    have hlit : ¬ 10 ≤ e.toNat := by rw [← codec_eq_zero_iff g, ← h, codec_eq_zero_iff]; omega
    omega
  calc d = litDigit (codec g d) := (litDigit_codec g hd).symm
    _ = litDigit (codec g e) := by rw [h]
    _ = e := litDigit_codec g he

/-- Settles O10: every code's row drives its pattern, a lit pattern is read back, and blank means illegal. -/
theorem codecIsTotalAndInjective : Obligations.CodecIsTotalAndInjective :=
  fun s => ⟨fun d => exec_decodeDigit d s, fun _ _ => eq_of_codec_eq, codec_eq_zero_iff s.cfg.glyphs⟩

end Sys2Proof.Machine
end

section
/-! PROOFS. The display multiplexer (spec/41_display_multiplexer.md): slots, illegal phases and the order of
the phases, at phase level and at clock level. -/

namespace Sys2Proof.Machine

/-- Settles O11: each slot row is `slotPhase` of its position. -/
theorem slotRowsShowAccrueAdvance : Obligations.SlotRowsShowAccrueAdvance := by
  intro s
  exact ⟨congrArg Host.Outcome.next (slotPhase_eq 0 s), congrArg Host.Outcome.next (slotPhase_eq 1 s),
    congrArg Host.Outcome.next (slotPhase_eq 2 s), congrArg Host.Outcome.next (slotPhase_eq 3 s)⟩

/-! ### A clock edge by the phase it is entered in -/

theorem clockEdge_of_rst {s : State} (hrst : s.ports.rst = true) : clockEdge s = resetBlock s := if_pos hrst

theorem clockEdge_of_slot {s : State} {i : Fin 4} (hrst : s.ports.rst = false) (hslot : slotOf s.ph = some i) :
    clockEdge s = shiftSync (clockSlot i s) := by
  simp [clockEdge, hrst, hslot]

theorem clockEdge_of_update {s : State} (hrst : s.ports.rst = false) (hph : s.ph = 0b100) :
    clockEdge s = shiftSync { updateBlock s.btnSync.stage2 s with dwt := 0 } := by
  simp only [clockEdge, hrst, slotOf_of_update hph, if_pos hph, Bool.false_eq_true, if_false]

theorem clockEdge_of_illegal {s : State} (hrst : s.ports.rst = false) (hph : 5 ≤ s.ph.toNat) :
    clockEdge s = shiftSync { recoverPhase s with dwt := 0 } := by
  obtain ⟨hslot, hne⟩ := slotOf_of_illegal hph
  simp only [clockEdge, hrst, hslot, if_neg hne, Bool.false_eq_true, if_false]

/-- Settles O15: at both levels an illegal phase is `recoverPhase`. -/
theorem illegalPhasesRecover : Obligations.IllegalPhasesRecover := by
  refine fun s ph => ⟨rfl, rfl, fun hrst hph => ?_⟩
  obtain ⟨hseg, hdig⟩ := outputs_of_no_slot (slotOf_of_illegal hph).1
  refine ⟨fun hc => ?_, hseg, hdig, clockEdge_of_illegal hrst hph⟩
  rw [step_of_legalConfig hc (exec_fetch s), phaseStep_of_illegal hrst hph]
  rfl

/-! ### The order of the phases -/

theorem exists_slotOf_of_lt_four {ph : BitVec 3} (h : ph.toNat < 4) : ∃ i, slotOf ph = some i := by
  revert ph
  decide

theorem phaseAfterSlot_eq_add_one {ph : BitVec 3} {i : Fin 4} (h : slotOf ph = some i) :
    phaseAfterSlot i = ph + 1 := by
  revert ph i
  decide

theorem phaseStep_ph_of_slot {s : State} (hrst : s.ports.rst = false) (hph : s.ph.toNat < 4) :
    (phaseStep s).ph = s.ph + 1 := by
  obtain ⟨i, hslot⟩ := exists_slotOf_of_lt_four hph
  rw [phaseStep_of_slot hrst hslot, slotPhase_eq]
  exact phaseAfterSlot_eq_add_one hslot

/-- The phases advance in order, `UPD` and a reset lead to `S0` (R126). -/
theorem phaseStep_ph (s : State) :
    (s.ports.rst = true → (phaseStep s).ph = 0b000) ∧
    (s.ports.rst = false →
      (s.ph = 0b000 → (phaseStep s).ph = 0b001) ∧ (s.ph = 0b001 → (phaseStep s).ph = 0b010) ∧
      (s.ph = 0b010 → (phaseStep s).ph = 0b011) ∧ (s.ph = 0b011 → (phaseStep s).ph = 0b100) ∧
      (s.ph = 0b100 → (phaseStep s).ph = 0b000)) := by
  refine ⟨fun hrst => by rw [phaseStep_of_rst hrst]; rfl, fun hrst => ?_⟩
  have hnext {a b : BitVec 3} (ha : a.toNat < 4) (hb : a + 1 = b) (hph : s.ph = a) : (phaseStep s).ph = b := by
    rw [phaseStep_ph_of_slot hrst (hph ▸ ha), hph, hb]
  exact ⟨hnext (by decide) rfl, hnext (by decide) rfl, hnext (by decide) rfl, hnext (by decide) rfl,
    fun hph => by rw [phaseStep_of_update hrst hph]; rfl⟩

/-- What a clock edge does to `ph`, `dwt` and `acc`, within the timer's range (R124 to R126). -/
theorem clockEdge_timing (s : State) :
    (s.ports.rst = true → (clockEdge s).ph = 0b000) ∧
    (s.ports.rst = false →
      (s.ph.toNat < 4 → s.dwt + 1 < s.cfg.dwellCycles →
        (clockEdge s).ph = s.ph ∧ (clockEdge s).dwt = s.dwt + 1 ∧ (clockEdge s).acc = s.acc) ∧
      (s.ph.toNat < 4 → s.dwt + 1 = s.cfg.dwellCycles →
        (clockEdge s).ph = s.ph + 1 ∧ (clockEdge s).dwt = 0 ∧
        (clockEdge s).acc = if s.active then s.acc + BitVec.ofNat 16 s.cfg.dwellMs else s.acc) ∧
      (s.ph = 0b100 → s.dwt = 0 → (clockEdge s).ph = 0b000 ∧ (clockEdge s).dwt = 0)) := by
  refine ⟨fun hrst => by rw [clockEdge_of_rst hrst]; rfl, fun hrst =>
    ⟨fun hph hdwt => ?_, fun hph hdwt => ?_, fun hph _ => ?_⟩⟩
  · obtain ⟨i, hslot⟩ := exists_slotOf_of_lt_four hph
    rw [clockEdge_before_slot_end hrst hslot hdwt]
    exact ⟨rfl, rfl, rfl⟩
  · obtain ⟨i, hslot⟩ := exists_slotOf_of_lt_four hph
    rw [clockEdge_at_slot_end hrst hslot hdwt, accrual_eq]
    exact ⟨phaseAfterSlot_eq_add_one hslot, rfl, rfl⟩
  · rw [clockEdge_of_update hrst hph]
    exact ⟨rfl, rfl⟩

/-- The edges left in a slot do not move the phase before the last of them (R124). -/
theorem clockRun_ph_within_slot (ps : List Ports) (s : State) (hph : s.ph.toNat < 4)
    (hrst : ∀ p ∈ ps, p.rst = false) (hdwt : s.dwt < s.cfg.dwellCycles)
    (hlen : s.dwt + ps.length ≤ s.cfg.dwellCycles) :
    (clockRun ps s).ph = if s.dwt + ps.length = s.cfg.dwellCycles then s.ph + 1 else s.ph := by
  induction ps generalizing s with
  | nil => exact (if_neg hdwt.ne).symm
  | cons p ps ih =>
    have hp : p.rst = false := hrst p (by simp)
    obtain ⟨i, hslot⟩ := exists_slotOf_of_lt_four hph
    rw [List.length_cons] at hlen ⊢
    rw [clockRun_cons]
    by_cases hend : s.dwt + 1 = s.cfg.dwellCycles
    · obtain rfl : ps = [] := List.eq_nil_of_length_eq_zero (by omega)
      rw [if_pos (by simpa using hend)]
      exact (((clockEdge_timing { s with ports := p }).2 hp).2.1 hph hend).1
    · have hlt : s.dwt + 1 < s.cfg.dwellCycles := by omega
      rw [clockEdge_before_slot_end (s := { s with ports := p }) hp hslot hlt, Nat.add_comm ps.length,
        ← Nat.add_assoc]
      refine ih _ hph (fun q hq => hrst q (List.mem_cons_of_mem p hq)) hlt ?_
      change s.dwt + 1 + ps.length ≤ s.cfg.dwellCycles
      omega

/-- Settles O16: the phase step and the clock edge by the phase entered, and a slot's edges by induction. -/
theorem phaseAdvancesInOrder : Obligations.PhaseAdvancesInOrder := by
  refine ⟨fun s t hstep => ?_, fun s t hclock => ?_, fun s ps hc hph hdwt hrst hlen => ?_⟩
  · obtain ⟨-, p, ps, n, rfl⟩ := phaseStep_of_step hstep
    exact phaseStep_ph s
  · obtain ⟨-, p, ps, n, rfl⟩ := clockEdge_of_clock hclock
    exact clockEdge_timing s
  · obtain ⟨-, -, hcycles⟩ := (legalConfig_iff s.cfg).1 hc
    rw [clockRun_ph_within_slot ps s hph hrst (by omega) (by omega), hdwt, Nat.zero_add]

end Sys2Proof.Machine
end

section
/-! PROOFS. What the update phase carries through untouched, the polarities of the physical pins among it
(spec/41_display_multiplexer.md R131), and the clock edge in `UPD`. -/

namespace Sys2Proof.Machine

/-! ### What the update phase neither reads nor writes -/

/-- `s` with the polarities, the environment, the phase, the dwell timer and the synchronizer of `e`: what no
stage of the update phase reads or writes. -/
def withContext (e s : State) : State :=
  { s with
    cfg := { s.cfg with
      segActiveLow := e.cfg.segActiveLow, digActiveLow := e.cfg.digActiveLow, relayActiveLow := e.cfg.relayActiveLow }
    ports := e.ports, script := e.script, portDraws := e.portDraws, ph := e.ph, dwt := e.dwt, btnSync := e.btnSync }

section
variable (e : State)

theorem fireAction_withContext (k : Button) (s : State) :
    fireAction k (withContext e s) = withContext e (fireAction k s) := by
  cases k <;> simp only [fireAction, apply_ite (withContext e)] <;> rfl

theorem press_withContext (b : BitVec 4) (k : Button) (s : State) :
    press b k (withContext e s) = withContext e (press b k s) :=
  fireAction_withContext e k (pollButton b k s)

theorem pollAll_withContext (b : BitVec 4) (s : State) :
    pollAll b (withContext e s) = withContext e (pollAll b s) := by
  simp only [pollAll, press_withContext]

theorem dispatch_withContext (s : State) : dispatch (withContext e s) = withContext e (dispatch s) := by
  simp only [dispatch, apply_ite (withContext e)]
  rfl

theorem tick_withContext (s : State) : tick (withContext e s) = withContext e (tick s) := by
  simp only [tick, apply_ite (withContext e)]
  rfl

theorem updateBlock_withContext (b : BitVec 4) (s : State) :
    updateBlock b (withContext e s) = { withContext e (updateBlock b s) with ph := 0b000 } := by
  have hpoll : pollAll b (enterUpdate (withContext e s)) = withContext e (pollAll b (enterUpdate s)) :=
    pollAll_withContext e b (enterUpdate s)
  rw [updateBlock_eq, updateBlock_eq, hpoll, dispatch_withContext, tick_withContext]
  rfl

end

/-- The update phase keeps its own context, but for the phase. -/
theorem updateBlock_eq_withContext (b : BitVec 4) (s : State) :
    updateBlock b s = { withContext s (updateBlock b s) with ph := 0b000 } :=
  updateBlock_withContext s b s

@[simp] theorem updateBlock_portDraws (b : BitVec 4) (s : State) : (updateBlock b s).portDraws = s.portDraws := by
  rw [updateBlock_eq_withContext]
  rfl

@[simp] theorem updateBlock_btnSync (b : BitVec 4) (s : State) : (updateBlock b s).btnSync = s.btnSync := by
  rw [updateBlock_eq_withContext]
  rfl

/-! ### The polarities -/

theorem updateBlock_withPolarity (x y z : Bool) (b : BitVec 4) (s : State) :
    updateBlock b (withPolarity x y z s) = withPolarity x y z (updateBlock b s) := by
  calc updateBlock b (withPolarity x y z s)
      = { withContext (withPolarity x y z s) (updateBlock b s) with ph := 0b000 } :=
        updateBlock_withContext (withPolarity x y z s) b s
    _ = withPolarity x y z { withContext s (updateBlock b s) with ph := 0b000 } := rfl
    _ = withPolarity x y z (updateBlock b s) := by rw [← updateBlock_eq_withContext]

theorem phaseStep_withPolarity (x y z : Bool) (s : State) :
    phaseStep (withPolarity x y z s) = withPolarity x y z (phaseStep s) := by
  obtain ⟨hrst, hu⟩ | ⟨hrst, i, hslot, hu⟩ | ⟨hrst, hph, hu⟩ | ⟨hrst, hph, hu⟩ := phaseStep_cases s <;> rw [hu]
  · exact phaseStep_of_rst (s := withPolarity x y z s) hrst
  · rw [phaseStep_of_slot (s := withPolarity x y z s) hrst hslot, slotPhase_eq, slotPhase_eq]
    rfl
  · rw [phaseStep_of_update (s := withPolarity x y z s) hrst hph, updateBlock_withPolarity]
    rfl
  · exact phaseStep_of_illegal (s := withPolarity x y z s) hrst hph

theorem clockSlot_withPolarity (x y z : Bool) (i : Fin 4) (s : State) :
    clockSlot i (withPolarity x y z s) = withPolarity x y z (clockSlot i s) := by
  simp only [clockSlot, accrual_eq, apply_ite (withPolarity x y z)]
  rfl

theorem clockEdge_withPolarity (x y z : Bool) (s : State) :
    clockEdge (withPolarity x y z s) = withPolarity x y z (clockEdge s) := by
  obtain hrst | ⟨hrst, ⟨i, hslot⟩ | hph | hph⟩ := entry_cases s
  · rw [clockEdge_of_rst hrst, clockEdge_of_rst (s := withPolarity x y z s) hrst]
    rfl
  · rw [clockEdge_of_slot hrst hslot, clockEdge_of_slot (s := withPolarity x y z s) hrst hslot,
      clockSlot_withPolarity]
    rfl
  · rw [clockEdge_of_update hrst hph, clockEdge_of_update (s := withPolarity x y z s) hrst hph,
      updateBlock_withPolarity]
    rfl
  · rw [clockEdge_of_illegal hrst hph, clockEdge_of_illegal (s := withPolarity x y z s) hrst hph]
    rfl

theorem nextPorts_withPolarity (x y z : Bool) (s : State) :
    nextPorts (withPolarity x y z s) = withPolarity x y z (nextPorts s) := by
  unfold nextPorts
  cases hscript : s.script <;> simp only [withPolarity, hscript]

theorem step_withPolarity {s t : State} (x y z : Bool) (h : step s = .next t) :
    step (withPolarity x y z s) = .next (withPolarity x y z t) := by
  obtain ⟨hc, u, hu, rfl⟩ := step_next h
  obtain rfl : phaseStep s = u := by simpa [exec_fetch] using hu
  rw [step_of_legalConfig (s := withPolarity x y z s) hc (exec_fetch _), phaseStep_withPolarity,
    nextPorts_withPolarity]

theorem clock_withPolarity {s t : State} (x y z : Bool) (h : clock s = .next t) :
    clock (withPolarity x y z s) = .next (withPolarity x y z t) := by
  obtain ⟨hc, -⟩ := clockEdge_of_clock h
  obtain rfl : nextPorts (clockEdge s) = t := by simpa [clock_of_legalConfig hc] using h
  rw [clock_of_legalConfig (s := withPolarity x y z s) hc, clockEdge_withPolarity, nextPorts_withPolarity]

/-- A vector inverted as a whole under a parameter is inverted bit by bit (R131). -/
theorem getLsbD_xor_polarity {w j : Nat} (hj : j < w) (v : BitVec w) (low : Bool) :
    (v ^^^ (if low then BitVec.allOnes w else 0)).getLsbD j = (v.getLsbD j ^^ low) := by
  cases low <;> simp [hj]

/-- Settles O19: the pins bit by bit, and every phase and clock edge carries the polarities through unread. -/
theorem pinsApplyThePolarity : Obligations.PinsApplyThePolarity :=
  fun _ => ⟨fun _ hj => getLsbD_xor_polarity hj _ _, fun _ hj => getLsbD_xor_polarity hj _ _, rfl,
    fun x y z => ⟨rfl, fun _ => ⟨step_withPolarity x y z, clock_withPolarity x y z⟩⟩⟩

/-! ### What the update phase reads -/

/-- What the update phase reads of a state: the phase view without the phase, the dwell timer, the lines and the
strobe, which it overwrites or does not read. -/
def updateView (s : State) : State :=
  { phaseView s with ph := 0b000, dwt := 0, seg := 0, digEn := 0, saveStb := false }

theorem press_clearStrobe_of_ne_save (b : BitVec 4) {k : Button} (hk : k ≠ .save) (s : State) :
    press b k (clearStrobe s) = clearStrobe (press b k s) := by
  have haction (u : State) : fireAction k (clearStrobe u) = clearStrobe (fireAction k u) := by
    cases k with
    | inc | dec =>
      simp only [fireAction, apply_ite clearStrobe]
      rfl
    | save => exact absurd rfl hk
    | ss => rfl
  exact haction (pollButton b k s)

/-- The action of SAVE writes the strobe in either case, so what it was before is lost (R235). -/
theorem press_save_clearStrobe (b : BitVec 4) (s : State) :
    press b .save (clearStrobe s) = press b .save s := rfl

theorem pollAll_clearStrobe (b : BitVec 4) (s : State) : pollAll b (clearStrobe s) = pollAll b s := by
  simp only [pollAll, press_clearStrobe_of_ne_save b (k := .inc) (by decide),
    press_clearStrobe_of_ne_save b (k := .dec) (by decide), press_save_clearStrobe]

theorem updateBlock_clearStrobe_dark (b : BitVec 4) (s : State) :
    updateBlock b (clearStrobe (dark s)) = updateBlock b s := by
  have henter : pollAll b (enterUpdate (clearStrobe (dark s))) = pollAll b (enterUpdate s) :=
    pollAll_clearStrobe b (enterUpdate s)
  rw [updateBlock_eq, updateBlock_eq, henter]
  rfl

theorem updateBlock_updateView (b : BitVec 4) (s : State) :
    updateBlock b s = { withContext s (updateBlock b (updateView s)) with ph := 0b000 } :=
  calc updateBlock b s = updateBlock b (clearStrobe (dark s)) := (updateBlock_clearStrobe_dark b s).symm
    _ = updateBlock b (withContext s (updateView s)) := rfl
    _ = _ := updateBlock_withContext s b (updateView s)

/-- States alike in what the update phase reads are alike after it, but for the context each keeps. -/
theorem updateBlock_congr {s u : State} (h : updateView s = updateView u) (b : BitVec 4) :
    updateBlock b s = { updateBlock b u with
      ports := s.ports, script := s.script, portDraws := s.portDraws, dwt := s.dwt, btnSync := s.btnSync } := by
  have hcfg : s.cfg = u.cfg := show (updateView s).cfg = (updateView u).cfg by rw [h]
  rw [updateBlock_updateView b s, updateBlock_updateView b u, h, withContext, withContext, hcfg]

theorem updateView_congr {s u : State} (h : phaseView s = phaseView u) : updateView s = updateView u :=
  congrArg (fun v => { v with ph := 0b000, dwt := 0, seg := 0, digEn := 0, saveStb := false }) h

/-- The clock edge in `UPD` is the update phase of any state alike, on the synchronized sample. -/
theorem phaseView_clockEdge_of_update {s u : State} (hrst : s.ports.rst = false) (hph : s.ph = 0b100)
    (h : updateView s = updateView u) :
    phaseView (clockEdge s) = phaseView { updateBlock s.btnSync.stage2 u with dwt := 0 } := by
  rw [clockEdge_of_update hrst hph, updateBlock_congr h]
  rfl

/-- Settles O58: the two states differ in the port levels alone, which the update phase does not read. -/
theorem clockRefinesTheUpdatePhase : Obligations.ClockRefinesTheUpdatePhase := by
  intro s p hph hrst
  exact ⟨_, rfl, phaseView_clockEdge_of_update (s := { s with ports := p })
    (u := { s with ports := { p with btnN := s.btnSync.stage2 } }) hrst hph rfl⟩

end Sys2Proof.Machine
end

section
/-! PROOFS. The frame and the pass (spec/41_display_multiplexer.md R121, R129; spec/45_pass_sequencer.md R240):
the slots of a frame as phase steps and as clock edges. -/

namespace Sys2Proof.Machine

/-! ### What the slots of a frame leave -/

/-- `s` with the accruals of `n` slots made at once (R129). -/
def accrueSlots (n : Nat) (s : State) : State :=
  { s with acc := if s.active then s.acc + BitVec.ofNat 16 (n * s.cfg.dwellMs) else s.acc }

theorem accrueSlots_zero (s : State) : accrueSlots 0 s = s := by
  simp [accrueSlots]

theorem accrueSlots_four (s : State) : accrueSlots 4 s = accrueFrame s := by
  unfold accrueSlots accrueFrame
  split <;> rfl

theorem accrueSlots_one_accrueSlots (n : Nat) (s : State) :
    accrueSlots 1 (accrueSlots n s) = accrueSlots (n + 1) s := by
  unfold accrueSlots
  cases s.active
  · rfl
  · simp [Nat.add_mul, BitVec.ofNat_add, BitVec.add_assoc]

/-- For all that the update phase reads, a slot's phase step is one accrual. -/
theorem updateView_slotPhase (i : Fin 4) (s : State) :
    updateView (slotPhase i s) = updateView (accrueSlots 1 s) := by
  rw [slotPhase_eq, accrueSlots, Nat.one_mul]
  rfl

theorem updateView_accrueSlots_congr {s u : State} (h : updateView s = updateView u) (n : Nat) :
    updateView (accrueSlots n s) = updateView (accrueSlots n u) := congrArg (accrueSlots n) h

/-- The state `t` is `n` slots after the state `s` in `S0`: it is in slot `n`, or in `UPD` after four, and has
`n` dwells accrued; nothing else that the update phase reads is changed (R121, R125, R126). -/
structure SlotsAfter (n : Nat) (s t : State) : Prop where
  ph : t.ph = BitVec.ofNat 3 n
  view : updateView t = updateView (accrueSlots n s)

theorem SlotsAfter.zero {s : State} (h : s.ph = 0b000) : SlotsAfter 0 s s :=
  ⟨h, by rw [accrueSlots_zero]⟩

section
variable {n : Nat} {s t : State} (h : SlotsAfter n s t)
include h

theorem SlotsAfter.slotOf (hn : n < 4) : slotOf t.ph = some ⟨n, hn⟩ := (slotOf_eq_some_iff t.ph ⟨n, hn⟩).2 h.ph

theorem SlotsAfter.cfg_eq : t.cfg = s.cfg :=
  show (updateView t).cfg = (updateView (accrueSlots n s)).cfg by rw [h.view]

/-- The digits shown are among what the update phase reads, and no accrual changes them. -/
theorem SlotsAfter.pattern_eq (i : Fin 4) :
    codec t.cfg.glyphs (shownDigit t i) = codec s.cfg.glyphs (shownDigit s i) :=
  show codec (updateView t).cfg.glyphs (shownDigit (updateView t) i) = _ by
    rw [h.view]
    rfl

/-- One more slot, at either level. -/
theorem SlotsAfter.succ (hn : n < 4) {u : State} (hu : phaseView u = phaseView (slotPhase ⟨n, hn⟩ t)) :
    SlotsAfter (n + 1) s u := by
  have hafter : ∀ i : Fin 4, phaseAfterSlot i = BitVec.ofNat 3 (i.val + 1) := by decide
  have hph : (phaseView u).ph = phaseAfterSlot ⟨n, hn⟩ := by rw [hu]; rfl
  refine ⟨hph.trans (hafter ⟨n, hn⟩), ?_⟩
  rw [updateView_congr hu, updateView_slotPhase, updateView_accrueSlots_congr h.view, accrueSlots_one_accrueSlots]

end

/-- The pass is the update phase after the accruals of four slots. -/
theorem pass_eq (b : BitVec 4) (s : State) :
    pass b s = { updateBlock b (accrueSlots 4 s) with dwt := 0, btnSync := ⟨b, b⟩ } := by
  rw [accrueSlots_four]
  rfl

/-! ### Slots as phase steps -/

theorem run_succ_of_run {M : Host.Core} {k : Nat} {s t : M.State} (h : M.run k s = .next t) :
    M.run (k + 1) s = M.step t := by
  induction k generalizing s with
  | zero =>
    obtain rfl : s = t := Host.Outcome.next.inj h
    unfold Host.Core.run
    cases M.step s <;> rfl
  | succ k ih =>
    unfold Host.Core.run at h ⊢
    cases hstep : M.step s with
    | next u =>
      rw [hstep] at h
      exact ih h
    | fault r => simp [hstep] at h
    | refused r => simp [hstep] at h

theorem nextPorts_of_script {s : State} {p : Ports} {ps : List Ports} (h : s.script = p :: ps) :
    nextPorts s = { s with ports := p, script := ps } := by
  unfold nextPorts
  rw [h]

theorem step_of_slot {s : State} {i : Fin 4} {p : Ports} {ps : List Ports} (hc : legalConfig s.cfg = true)
    (hrst : s.ports.rst = false) (hslot : slotOf s.ph = some i) (hscript : s.script = p :: ps) :
    step s = .next { slotPhase i s with ports := p, script := ps } := by
  have hkept : (slotPhase i s).script = p :: ps := by rw [slotPhase_eq]; exact hscript
  rw [step_of_legalConfig hc (exec_fetch s), phaseStep_of_slot hrst hslot, nextPorts_of_script hkept]

/-- The first `n` slots of a frame as steps, on the port levels `ps` without reset. -/
theorem run_slots {s : State} {ps rest : List Ports} (hc : legalConfig s.cfg = true) (hph : s.ph = 0b000)
    (hps : s.ports :: s.script = ps ++ rest) (hrst : ∀ p ∈ ps, p.rst = false) {n : Nat} (hn : n ≤ 4)
    (hlen : n < ps.length) :
    ∃ t : State, Host.Core.run Sys2Proof.core n s = .next t ∧ SlotsAfter n s t ∧
      t.ports = ps[n] ∧ t.script = ps.drop (n + 1) ++ rest ∧ t.portDraws = s.portDraws := by
  induction n with
  | zero =>
    cases ps with
    | nil => simp at hlen
    | cons p ps =>
      obtain ⟨hports, hscript⟩ := List.cons.inj hps
      exact ⟨s, rfl, .zero hph, hports, hscript, rfl⟩
  | succ n ih =>
    obtain ⟨t, hrun, hafter, hports, hscript, hdraws⟩ := ih (by omega) (by omega)
    have hc' : legalConfig t.cfg = true := by rw [hafter.cfg_eq, hc]
    have hrst' : t.ports.rst = false := by rw [hports]; exact hrst _ (List.getElem_mem _)
    rw [List.drop_eq_getElem_cons hlen, List.cons_append] at hscript
    have hslot := hafter.slotOf (by omega)
    refine ⟨_, (run_succ_of_run hrun).trans (step_of_slot hc' hrst' hslot hscript),
      hafter.succ (by omega) rfl, rfl, rfl, ?_⟩
    have hkept : (slotPhase ⟨n, by omega⟩ t).portDraws = t.portDraws := by rw [slotPhase_eq]; rfl
    exact hkept.trans hdraws

/-- Settles O18: the step after `k` slots shows entry `k`, of the source the pass began with. -/
theorem frameShowsTheEntrySource : Obligations.FrameShowsTheEntrySource := by
  intro s p1 p2 p3 rest hc hph hrst h1 h2 h3 hscript k
  have hall : ∀ p ∈ [s.ports, p1, p2, p3], p.rst = false := by simp [hrst, h1, h2, h3]
  obtain ⟨t, hrun, hafter, hports, -⟩ := run_slots (rest := rest) hc hph (by rw [hscript]; rfl) hall
    (n := k.val) (by omega) k.isLt
  have hc' : legalConfig t.cfg = true := by rw [hafter.cfg_eq, hc]
  have hrst' : t.ports.rst = false := by rw [hports]; exact hall _ (List.getElem_mem _)
  obtain ⟨hseg, hdig⟩ := phaseStep_lines t
  obtain ⟨hsegk, hdigk⟩ := outputs_of_slot hrst' (hafter.slotOf k.isLt)
  refine ⟨_, (run_succ_of_run hrun).trans (step_of_legalConfig hc' (exec_fetch t)), ?_⟩
  obtain ⟨p, ps, n, henv⟩ := nextPorts_eq (phaseStep t)
  rw [henv]
  dsimp only
  rw [hseg, hdig, hsegk, hdigk, hafter.pattern_eq]
  fin_cases k <;> rfl

/-- Settles O50: after four slots the update phase finds the frame's one accrual, and the fifth step is that
update. -/
theorem fiveStepsAreOnePass : Obligations.FiveStepsAreOnePass := by
  intro s p1 p2 p3 p4 rest hc hph hrst h1 h2 h3 h4 hscript
  obtain ⟨t, hrun, hafter, hports, hrest, hdraws⟩ := run_slots (ps := [s.ports, p1, p2, p3, p4]) (rest := rest)
    hc hph (by rw [hscript]; rfl) (by simp [hrst, h1, h2, h3, h4]) (n := 4) le_rfl (by simp)
  obtain rfl : t.ports = p4 := hports
  obtain rfl : t.script = rest := hrest
  have hc' : legalConfig t.cfg = true := by rw [hafter.cfg_eq, hc]
  have hkept : (updateBlock t.ports.btnN (accrueSlots 4 s)).portDraws = s.portDraws := updateBlock_portDraws _ _
  refine (run_succ_of_run hrun).trans ((step_of_legalConfig hc' (exec_fetch t)).trans ?_)
  rw [phaseStep_of_update h4 hafter.ph, updateBlock_congr hafter.view, pass_eq, hdraws, ← hkept]
  rfl

/-! ### Slots as clock edges -/

theorem clockRun_append (ps qs : List Ports) (s : State) :
    clockRun (ps ++ qs) s = clockRun qs (clockRun ps s) := List.foldl_append

/-- The first `n` slots of a frame as clock edges, `DWELL_CYCLES` of them a slot. -/
theorem clockRun_slots {s : State} (hc : legalConfig s.cfg = true) (hph : s.ph = 0b000) (hdwt : s.dwt = 0)
    {n : Nat} (hn : n ≤ 4) (ps : List Ports) (hlen : ps.length = n * s.cfg.dwellCycles)
    (hrst : ∀ p ∈ ps, p.rst = false) :
    SlotsAfter n s (clockRun ps s) ∧ (clockRun ps s).dwt = 0 := by
  obtain ⟨-, -, hcycles⟩ := (legalConfig_iff s.cfg).1 hc
  induction n generalizing ps with
  | zero =>
    obtain rfl : ps = [] := List.eq_nil_of_length_eq_zero (by omega)
    exact ⟨.zero hph, hdwt⟩
  | succ n ih =>
    rw [Nat.succ_mul] at hlen
    obtain ⟨qs, rs, rfl, hqs⟩ : ∃ qs rs, ps = qs ++ rs ∧ qs.length = n * s.cfg.dwellCycles :=
      ⟨ps.take _, ps.drop _, (List.take_append_drop _ _).symm, List.length_take_of_le (by omega)⟩
    rw [List.length_append, hqs, Nat.add_left_cancel_iff] at hlen
    obtain ⟨hafter, hdwt'⟩ := ih (by omega) qs hqs fun p hp => hrst p (List.mem_append_left rs hp)
    cases rs with
    | nil => rw [List.length_nil] at hlen; omega
    | cons r rs =>
      have hslot : phaseView (clockRun (r :: rs) (clockRun qs s)) = phaseView (slotPhase ⟨n, hn⟩ (clockRun qs s)) :=
        phaseView_clockRun_to_slot_end r rs _ (hafter.slotOf hn) (by rw [hdwt', hlen, hafter.cfg_eq, Nat.zero_add])
          fun p hp => hrst p (List.mem_append_right qs hp)
      rw [clockRun_append]
      refine ⟨hafter.succ hn hslot, ?_⟩
      change (phaseView (clockRun (r :: rs) (clockRun qs s))).dwt = 0
      rw [hslot]
      rfl

/-- An edge without reset shifts the synchronizer (R156). -/
theorem clockEdge_btnSync {s : State} (hrst : s.ports.rst = false) :
    (clockEdge s).btnSync = ⟨s.ports.btnN, s.btnSync.stage1⟩ := by
  obtain ⟨hrst', -⟩ | ⟨i, -, -, hu⟩ | ⟨i, -, -, hu⟩ | ⟨-, hu⟩ | ⟨-, hu⟩ := clockEdge_cases s
  · simp [hrst] at hrst'
  · rw [hu, accrual_eq]
    rfl
  · rw [hu]
    rfl
  · rw [hu, shiftSync, updateBlock_btnSync, updateBlock_ports]
  · rw [hu]
    rfl

/-- After two edges the synchronizer holds the two levels they saw, the older one as the sample (R156). -/
theorem clockRun_btnSync (ps : List Ports) {p q : Ports} (hp : p.rst = false) (hq : q.rst = false) (s : State) :
    (clockRun (ps ++ [p, q]) s).btnSync = ⟨q.btnN, p.btnN⟩ := by
  rw [clockRun_append]
  change (clockEdge { clockEdge { clockRun ps s with ports := p } with ports := q }).btnSync = _
  rw [clockEdge_btnSync hq]
  simp only [clockEdge_btnSync (s := { clockRun ps s with ports := p }) hp]

/-- Settles O59: four slots of edges lead to `UPD` with the frame accrued, and the last edge is the update phase
on the level presented two edges before it. -/
theorem clockRefinesThePass : Obligations.ClockRefinesThePass := by
  intro s ps p hc hph hdwt hlen hrst hp
  obtain ⟨-, -, hcycles⟩ := (legalConfig_iff s.cfg).1 hc
  obtain ⟨qs, a, q, r, rfl⟩ : ∃ qs a q r, ps = qs ++ [a, q, r] := by
    obtain ⟨a, q, r, hlast⟩ := List.length_eq_three.1
      (show (ps.drop (4 * s.cfg.dwellCycles - 2)).length = 3 by rw [List.length_drop]; omega)
    exact ⟨_, a, q, r, by rw [← hlast, List.take_append_drop]⟩
  have hqs : qs.length = 4 * s.cfg.dwellCycles - 2 := by
    simp only [List.length_append, List.length_cons, List.length_nil] at hlen
    omega
  obtain rfl : a = p := by simpa [← hqs] using hp
  have hsplit : qs ++ [a, q, r] = (qs ++ [a, q]) ++ [r] := by simp
  rw [hsplit] at hlen hrst ⊢
  obtain ⟨hafter, -⟩ := clockRun_slots hc hph hdwt (n := 4) le_rfl (qs ++ [a, q]) (by simpa using hlen)
    fun p hp => hrst p (List.mem_append_left [r] hp)
  have hsync := clockRun_btnSync qs (hrst a (by simp)) (hrst q (by simp)) s
  rw [clockRun_append]
  change phaseView (clockEdge { clockRun (qs ++ [a, q]) s with ports := r }) = _
  rw [phaseView_clockEdge_of_update (s := { clockRun (qs ++ [a, q]) s with ports := r }) (hrst r (by simp))
    hafter.ph hafter.view, hsync, pass_eq]
  rfl

end Sys2Proof.Machine
end

section
/-! PROOFS. The decrement schedule (spec/44_countdown_fsm.md R204, R210, R211): one pass in which SS does not
fire, and any number of them. -/

namespace Sys2Proof.Machine

/-! ### Values counted down -/

/-- DEC of a legal value above zero takes one off it (R172, R174). -/
theorem timeVal_decTime {x : TimeValue} (hx : legalTime x = true) (hpos : 0 < timeVal x) (mode : IllegalDigit)
    (free : TimeValue) : timeVal (decTime mode free x) = timeVal x - 1 := by
  obtain ⟨h0, h1, h2, h3⟩ := (legalTime_iff x).1 hx
  have hpred (d : Digit) (hd : 0 < d.toNat) : (d - 1).toNat = d.toNat - 1 := by bv_omega
  have hnine : (9 : Digit).toNat = 9 := rfl
  by_cases z0 : x.d0.toNat = 0
  · by_cases z1 : x.d1.toNat = 0
    · by_cases z2 : x.d2.toNat = 0
      · have z3 : 0 < x.d3.toNat := by simp only [timeVal] at hpos; omega
        rw [decTime_stop3 mode free x z0 z1 z2 z3 h3]
        simp only [timeVal, hpred x.d3 z3, hnine]
        omega
      · have z2 : 0 < x.d2.toNat := Nat.pos_of_ne_zero z2
        rw [decTime_stop2 mode free x z0 z1 z2 h2]
        simp only [timeVal, hpred x.d2 z2, hnine]
        omega
    · have z1 : 0 < x.d1.toNat := Nat.pos_of_ne_zero z1
      rw [decTime_stop1 mode free x z0 z1 h1]
      simp only [timeVal, hpred x.d1 z1, hnine]
      omega
  · have z0 : 0 < x.d0.toNat := Nat.pos_of_ne_zero z0
    rw [decTime_stop0 mode free x z0 h0]
    simp only [timeVal, hpred x.d0 z0]
    omega

theorem timeVal_of_isZero {x : TimeValue} (h : isZero x = true) : timeVal x = 0 := by
  rw [(isZero_iff x).1 h]
  rfl

/-! ### One pass -/

@[simp] theorem pass_cfg (b : BitVec 4) (s : State) : (pass b s).cfg = s.cfg := by
  rw [pass_eq]
  exact updateBlock_cfg b _

/-- The latch of SS after a pass is the re-arm of R151: SS is allowed in both modes (R154). -/
theorem getBit_pass_rel_ss (b : BitVec 4) (s : State) : getBit (pass b s).rel .ss = !pressed b .ss := by
  have hrel : (pass b s).rel = (press b .ss (press b .save (press b .dec (press b .inc
      (enterUpdate (accrueFrame s)))))).rel := by
    rw [pass, updateBlock_eq, tick_frame, dispatch_frame]
    rfl
  rw [hrel, press_rel, getBit_setBit_same]
  rfl

/-- The countdown `t` is `d` milliseconds past the countdown `s`, with no stop between (R204, R210). -/
structure CountedDown (d : Nat) (s t : State) : Prop where
  active : t.active = true
  legal : legalTime t.l = true
  val : timeVal t.l = timeVal s.l - (s.acc.toNat + d) / 1000
  acc : t.acc.toNat = (s.acc.toNat + d) % 1000

/-- While Active an update phase in which SS does not fire takes the due tick, if `L` stays above zero. -/
theorem CountdownChange.countedDown {b : BitVec 4} {s t : State} (h : CountdownChange b s t)
    (hactive : s.active = true) (hacc : s.acc.toNat < 2000) (hl : legalTime s.l = true)
    (hss : fires s b .ss = false) (hval : s.acc.toNat / 1000 < timeVal s.l) : CountedDown 0 s t := by
  have htick : 1000 ≤ s.acc.toNat → (s.acc - 1000).toNat = s.acc.toNat - 1000 := fun hdue => by bv_omega
  have hdec (free : TimeValue) : timeVal (decTime s.cfg.illegalDigit free s.l) = timeVal s.l - 1 :=
    timeVal_decTime hl (by omega) _ free
  cases h with
  | stop fired was l acc now => simp [hss] at fired
  | start fired was nonzero l acc now => simp [hss] at fired
  | autostop was due zero l acc now =>
    obtain ⟨free, l⟩ := l
    have hzero := timeVal_of_isZero zero
    rw [l, hdec] at hzero
    omega
  | countDown was due nonzero l acc now =>
    obtain ⟨free, l⟩ := l
    exact ⟨now, by rw [l, legalTime_decTime hl], by rw [l, hdec]; omega, by rw [acc, htick due]; omega⟩
  | keep idle l acc now =>
    have hearly : s.acc.toNat < 1000 := idle.resolve_left (by simp [hactive])
    exact ⟨now.trans hactive, l ▸ hl, by rw [l]; omega, by rw [acc]; omega⟩

section
variable {s : State} (hc : legalConfig s.cfg = true) (hactive : s.active = true) (hacc : s.acc.toNat < 1000)
include hc hactive hacc

/-- The frame's accrual does not wrap (R39, R129). -/
theorem toNat_accrueSlots_four_acc : (accrueSlots 4 s).acc.toNat = s.acc.toNat + 4 * s.cfg.dwellMs := by
  obtain ⟨-, hms, -⟩ := (legalConfig_iff s.cfg).1 hc
  simp only [accrueSlots, hactive, if_true, BitVec.toNat_add, BitVec.toNat_ofNat]
  omega

/-- A pass in which SS does not fire counts the frame's time down. -/
theorem pass_countedDown (hl : legalTime s.l = true) (b : BitVec 4) (hss : fires s b .ss = false)
    (hval : (s.acc.toNat + 4 * s.cfg.dwellMs) / 1000 < timeVal s.l) :
    CountedDown (4 * s.cfg.dwellMs) s (pass b s) := by
  obtain ⟨-, hms, -⟩ := (legalConfig_iff s.cfg).1 hc
  have hsum := toNat_accrueSlots_four_acc hc hactive hacc
  have hchange := updateBlock_countdownChange b (accrueSlots 4 s)
  obtain ⟨hact, hlegal, hvalue, hrest⟩ := hchange.countedDown hactive (by omega) hl hss (by rw [hsum]; exact hval)
  rw [hsum] at hvalue hrest
  rw [pass_eq]
  exact ⟨hact, hlegal, hvalue, hrest⟩

end

/-! ### Consecutive passes -/

theorem CountedDown.trans {d e : Nat} {s t u : State} (h : CountedDown d s t) (h' : CountedDown e t u) :
    CountedDown (d + e) s u := by
  obtain ⟨-, -, hval, hacc⟩ := h
  obtain ⟨hactive, hlegal, hval', hacc'⟩ := h'
  refine ⟨hactive, hlegal, ?_, ?_⟩
  · omega
  · omega

/-- A silent list of samples fires at none, from the latch each pass leaves. -/
theorem silent_cons {latch p : Bool} {ps : List Bool} (h : silent latch (p :: ps) = true) :
    (p && latch) = false ∧ silent (!p) ps = true := by
  have hpoll : poll true p latch = (p && latch, !p) := by cases p <;> cases latch <;> rfl
  rw [silent, pollRun, hpoll, List.all_cons, Bool.and_eq_true, Bool.not_eq_true'] at h
  exact h

/-- Passes in which SS does not fire count their time down, as long as `L` stays above zero. -/
theorem passes_countedDown (bs : List (BitVec 4)) {s : State} (hc : legalConfig s.cfg = true)
    (hactive : s.active = true) (hacc : s.acc.toNat < 1000) (hl : legalTime s.l = true)
    (hsilent : silent (getBit s.rel .ss) (bs.map fun b => pressed b .ss) = true)
    (hval : (s.acc.toNat + 4 * s.cfg.dwellMs * bs.length) / 1000 < timeVal s.l) :
    CountedDown (4 * s.cfg.dwellMs * bs.length) s (passes bs s) := by
  induction bs generalizing s with
  | nil => exact ⟨hactive, hl, by simp [passes, Nat.div_eq_of_lt hacc], by simp [passes, Nat.mod_eq_of_lt hacc]⟩
  | cons b bs ih =>
    rw [List.map_cons] at hsilent
    obtain ⟨hss, hrest⟩ := silent_cons hsilent
    rw [List.length_cons, Nat.mul_succ, Nat.add_comm (_ * bs.length)] at hval ⊢
    generalize hm : 4 * s.cfg.dwellMs * bs.length = m at hval ⊢
    have hfirst : CountedDown (4 * s.cfg.dwellMs) s (pass b s) :=
      pass_countedDown hc hactive hacc hl b hss (by omega)
    have hval₁ := hfirst.val
    have hacc₁ := hfirst.acc
    rw [← getBit_pass_rel_ss b s] at hrest
    have hcfg := pass_cfg b s
    refine hfirst.trans ?_
    rw [← hm, ← hcfg]
    refine ih (hcfg ▸ hc) hfirst.active (by omega) hfirst.legal hrest ?_
    rw [hcfg, hm]
    omega

/-- Settles O39: from `acc = 0` the time of `n` passes is `4*DWELL_MS*n`, counted down by the second. -/
theorem decrementSchedule : Obligations.DecrementSchedule := by
  intro s bs hc hactive hacc hl hsilent hval
  have hzero : s.acc.toNat = 0 := by rw [hacc]; rfl
  obtain ⟨hact, -, hvalue, hrest⟩ := passes_countedDown bs hc hactive (by omega) hl hsilent
    (by rw [hzero, Nat.zero_add]; exact hval)
  rw [hzero, Nat.zero_add] at hvalue hrest
  exact ⟨hact, hvalue, hrest⟩

end Sys2Proof.Machine
end

section
/-! PROOFS. The rows a phase step runs (spec/30_encoding.md section 8): running them one after another is the
step. -/

namespace Sys2Proof.Machine

/-! ### The inner rows of a phase and the state the first one sees -/

theorem fetch_of_rst {s : State} (hrst : s.ports.rst = true) : fetch s = .reset := by simp [fetch, hrst]

theorem fetch_of_not_rst {s : State} (hrst : s.ports.rst = false) : fetch s = decodePhase s.ph := by
  simp [fetch, hrst]

theorem fetch_of_update {s : State} (hrst : s.ports.rst = false) (hph : s.ph = 0b100) : fetch s = .update := by
  rw [fetch_of_not_rst hrst, hph]
  rfl

theorem rows_of_rst {s : State} (hrst : s.ports.rst = true) :
    innerRows s = [] ∧ enterPhase s = resetBlock s := by
  simp only [innerRows, enterPhase, fetch_of_rst hrst, and_self]

theorem rows_of_slot {s : State} {i : Fin 4} (hrst : s.ports.rst = false) (hslot : slotOf s.ph = some i) :
    innerRows s = [decodeDigit (shownDigit s i), decodeAccrual s.active] ∧
    enterPhase s = clearStrobe { s with digEn := onehot4 i } := by
  simp only [innerRows, enterPhase, fetch_of_not_rst hrst, (slotOf_eq_some_iff s.ph i).1 hslot]
  fin_cases i <;> exact ⟨rfl, rfl⟩

theorem rows_of_update {s : State} (hrst : s.ports.rst = false) (hph : s.ph = 0b100) :
    innerRows s = updateRows s.ports.btnN s ∧ enterPhase s = clearStrobe (enterUpdate s) := by
  simp only [innerRows, enterPhase, fetch_of_update hrst hph, and_self]

theorem rows_of_illegal {s : State} (hrst : s.ports.rst = false) (hph : 5 ≤ s.ph.toNat) :
    innerRows s = [] ∧ enterPhase s = dark s := by
  have codes : ∀ c : BitVec 3, 5 ≤ c.toNat → c = 5 ∨ c = 6 ∨ c = 7 := by decide
  simp only [innerRows, enterPhase, fetch_of_not_rst hrst]
  obtain h | h | h := codes s.ph hph <;> rw [h] <;> exact ⟨rfl, rfl⟩

/-! ### Running the rows of the update phase -/

theorem runRows_two {i j : Instr} {s t u : State} (hi : exec i s = .next t) (hj : exec j t = .next u) :
    runRows [i, j] s = .next u := by
  rw [runRows_cons hi, runRows_cons hj]
  rfl

/-- The FIRE row of the `fire` bit is the action of INC, DEC and SS (R233, R234, R236). -/
theorem runRows_actionRows_of_ne_save {k : Button} (hk : k ≠ .save) (s : State) :
    runRows (actionRows k s) s = .next (fireAction k s) := by
  cases k with
  | inc | dec | ss =>
    simp only [actionRows, fireAction]
    cases getBit s.fire _ <;> rfl
  | save => exact absurd rfl hk

/-- From a state with the strobe down, the FIRE row of SAVE is its action: a SAVE that does not fire clears the
strobe without a row (R235). -/
theorem runRows_actionRows_save (s : State) :
    runRows (actionRows .save s) (clearStrobe s) = .next (fireAction .save s) := by
  simp only [actionRows, fireAction]
  cases getBit s.fire .save <;> rfl

theorem runRows_pressRows_of_ne_save (b : BitVec 4) {k : Button} (hk : k ≠ .save) (s : State) :
    runRows (pressRows b k s) s = .next (press b k s) := by
  rw [pressRows, runRows_cons (exec_decodePoll_pollVector b k s)]
  exact runRows_actionRows_of_ne_save hk (pollButton b k s)

theorem runRows_pressRows_save (b : BitVec 4) (s : State) :
    runRows (pressRows b .save s) (clearStrobe s) = .next (press b .save s) := by
  have hpoll : exec (decodePoll .save (pollVector b .save s)) (clearStrobe s) =
      .next (clearStrobe (pollButton b .save s)) := exec_decodePoll_pollVector b .save (clearStrobe s)
  rw [pressRows, runRows_cons hpoll]
  exact runRows_actionRows_save (pollButton b .save s)

/-- Before SAVE the rows run with the strobe down. -/
theorem runRows_pressRows_clearStrobe (b : BitVec 4) {k : Button} (hk : k ≠ .save) (s : State) :
    runRows (pressRows b k s) (clearStrobe s) = .next (clearStrobe (press b k s)) := by
  rw [← press_clearStrobe_of_ne_save b hk]
  exact runRows_pressRows_of_ne_save b hk (clearStrobe s)

theorem runRows_updateRows (b : BitVec 4) (s : State) :
    runRows (updateRows b s) (clearStrobe (enterUpdate s)) =
      .next (relaySync (tick (dispatch (pollAll b (enterUpdate s))))) := by
  rw [updateRows, runRows_append (runRows_pressRows_clearStrobe b (by decide) _),
    runRows_append (runRows_pressRows_clearStrobe b (by decide) _),
    runRows_append (runRows_pressRows_save b _), runRows_append (runRows_pressRows_of_ne_save b (by decide) _),
    ← pollAll]
  rw [runRows_cons rfl, runRows_cons (exec_decodeSs_ssVector _), runRows_cons (exec_decodeTick_tickVector _),
    runRows_cons (exec_decodeRelay_relayVector _)]
  rfl

/-- The inner rows of a phase, run from the state it is entered in, are its step but for the phase register,
the dwell timer and the synchronizer. -/
theorem runRows_innerRows (s : State) : ∃ v, runRows (innerRows s) (enterPhase s) = .next v ∧
    { v with ph := (phaseStep s).ph, dwt := (phaseStep s).dwt, btnSync := (phaseStep s).btnSync } = phaseStep s := by
  obtain ⟨hrst, hu⟩ | ⟨hrst, i, hslot, hu⟩ | ⟨hrst, hph, hu⟩ | ⟨hrst, hph, hu⟩ := phaseStep_cases s <;> rw [hu]
  · obtain ⟨hrows, henter⟩ := rows_of_rst hrst
    rw [hrows, henter]
    exact ⟨_, rfl, rfl⟩
  · obtain ⟨hrows, henter⟩ := rows_of_slot hrst hslot
    have hdigit : exec (decodeDigit (shownDigit s i)) (clearStrobe { s with digEn := onehot4 i }) =
        .next (clearStrobe (driveSlot i s)) := exec_decodeDigit _ _
    rw [hrows, henter]
    refine ⟨_, runRows_two hdigit (exec_decodeAccrual (clearStrobe (driveSlot i s))), ?_⟩
    rw [slotPhase_eq, accrual_eq]
    rfl
  · obtain ⟨hrows, henter⟩ := rows_of_update hrst hph
    rw [hrows, henter]
    exact ⟨_, runRows_updateRows s.ports.btnN s, rfl⟩
  · obtain ⟨hrows, henter⟩ := rows_of_illegal hrst hph
    rw [hrows, henter]
    exact ⟨_, rfl, rfl⟩

end Sys2Proof.Machine
end

section
/-! PROOFS. Placed words (spec/30_encoding.md section 8): what a table word decodes to is well-formed, and the
rows of a step are its own row, its inner rows and the BCD functions these use. -/

namespace Sys2Proof.Machine

/-! ### A decoded word is well-formed -/

theorem decodeDigit_wellFormed (d : Digit) : (decodeDigit d).wellFormed = true := by
  revert d
  decide

theorem decodePoll_wellFormed (k : Button) (v : BitVec 3) : (decodePoll k v).wellFormed = true := by
  revert v
  cases k <;> decide

theorem decodeFire_wellFormed {k : Button} {f : Bool} {i : Instr} (h : decodeFire k f = some i) :
    i.wellFormed = true := by
  cases f <;> cases k <;> cases h <;> rfl

theorem decodeSs_wellFormed (v : BitVec 3) : (decodeSs v).wellFormed = true := by
  revert v
  decide

theorem decodeTick_wellFormed (v : BitVec 3) : (decodeTick v).wellFormed = true := by
  revert v
  decide

theorem decodeAccrual_wellFormed (a : Bool) : (decodeAccrual a).wellFormed = true := by
  cases a <;> rfl

theorem decodeRelay_wellFormed (v : BitVec 2) : (decodeRelay v).wellFormed = true := by
  revert v
  decide

theorem wellFormed_of_map_ok {α : Type} {e : Except Reject α} {f : α → Instr} {i : Instr}
    (hf : ∀ x, (f x).wellFormed = true) (h : e.map f = .ok i) : i.wellFormed = true := by
  cases e with
  | error r => cases h
  | ok x =>
    cases h
    exact hf x

theorem decodeVector_wellFormed {site : Site} {v : Byte} {i : Instr} (h : decodeVector site v = .ok i) :
    i.wellFormed = true := by
  cases site with
  | untagged =>
    refine wellFormed_of_map_ok (fun d => ?_) h
    split
    · exact decodePhase_wellFormed _
    · exact decodeDigit_wellFormed d
  | digit => exact wellFormed_of_map_ok decodeDigit_wellFormed h
  | phase => exact wellFormed_of_map_ok decodePhase_wellFormed h
  | poll k => exact wellFormed_of_map_ok (decodePoll_wellFormed k) h
  | fire k =>
    simp only [decodeVector] at h
    split at h
    · cases h
    · split at h
      · next hfire =>
        cases h
        exact decodeFire_wellFormed hfire
      · cases h
  | dispatch => exact wellFormed_of_map_ok decodeSs_wellFormed h
  | tick => exact wellFormed_of_map_ok decodeTick_wellFormed h
  | accrual => exact wellFormed_of_map_ok (fun a => decodeAccrual_wellFormed _) h
  | relay => exact wellFormed_of_map_ok decodeRelay_wellFormed h
  | rst =>
    simp only [decodeVector] at h
    split at h
    · cases h
    · split at h <;> cases h
      rfl
  | bcdInc | bcdDec | bcdIsZero => cases h

theorem decodeBcd_wellFormed {mk : TimeValue → Instr} (hmk : ∀ x, (mk x).wellFormed = true) {v : Byte}
    {bs rest : List Byte} {i : Instr} (h : decodeBcd mk v bs = .ok (i, rest)) : i.wellFormed = true := by
  unfold decodeBcd at h
  split at h
  · cases h
  · split at h
    · cases h
      exact hmk _
    · cases h

theorem decode_wellFormed {bs rest : List Byte} {i : Instr} (h : decode bs = .ok (i, rest)) :
    i.wellFormed = true := by
  unfold decode at h
  split at h
  · next v tag tail =>
    split at h
    · cases h
    · exact decodeBcd_wellFormed (fun _ => rfl) h
    · exact decodeBcd_wellFormed (fun _ => rfl) h
    · exact decodeBcd_wellFormed (fun _ => rfl) h
    · next site _ _ _ _ =>
      cases hvec : decodeVector site v with
      | error r => rw [hvec] at h; cases h
      | ok j =>
        rw [hvec] at h
        cases h
        exact decodeVector_wellFormed hvec
  · cases h

theorem decodeTableWord_wellFormed {nbits w : Nat} {i : Instr} (h : decodeTableWord nbits w = some i) :
    i.wellFormed = true := by
  unfold decodeTableWord at h
  split at h
  · next hdec =>
    cases h
    exact decode_wellFormed hdec
  · cases h

theorem withFetchWord_eq_placeInstr {nbits w : Nat} {i : Instr} (h : decodeTableWord nbits w = some i) (s : State) :
    s.withFetchWord nbits w = placeInstr i s := by
  unfold State.withFetchWord
  rw [h]

/-! ### Which rows a step runs -/

/-- A row stands in the trace with the state the rows before it lead to. -/
theorem mem_trace_append {is js : List Instr} {i : Instr} {s u : State} (h : runRows is s = .next u) :
    (i, u) ∈ trace (is ++ i :: js) s := by
  induction is generalizing s with
  | nil =>
    obtain rfl : s = u := Host.Outcome.next.inj h
    obtain ⟨t, ht⟩ := exec_next i s
    rw [List.nil_append, trace_cons ht]
    exact List.mem_cons_self
  | cons j is ih =>
    obtain ⟨t, ht⟩ := exec_next j s
    rw [runRows_cons ht] at h
    rw [List.cons_append, trace_cons ht]
    exact List.mem_cons_of_mem _ (ih h)

theorem fetch_mem_rowsOf (s : State) : fetch s ∈ rowsOf s := List.mem_cons_self

section
variable {is js : List Instr} {i : Instr} {s : State}

theorem mem_rowsOf_of_trace {u : State} (h : (i, u) ∈ trace (innerRows s) (enterPhase s)) {j : Instr}
    (hj : j ∈ i :: usedRows i u) : j ∈ rowsOf s :=
  List.mem_cons_of_mem _ (List.mem_flatMap.2 ⟨(i, u), h, hj⟩)

theorem mem_rowsOf_of_mem_innerRows (h : i ∈ innerRows s) : i ∈ rowsOf s := by
  obtain ⟨is, js, hrows⟩ := List.append_of_mem h
  obtain ⟨u, hu⟩ := runRows_next is (enterPhase s)
  exact mem_rowsOf_of_trace (hrows ▸ mem_trace_append hu) List.mem_cons_self

/-- A BCD function is among the rows if a row that uses it is, in the state that row is run in. -/
theorem mem_rowsOf_of_used {u : State} {j : Instr} (hrows : innerRows s = is ++ i :: js)
    (hrun : runRows is (enterPhase s) = .next u) (hj : j ∈ usedRows i u) : j ∈ rowsOf s :=
  mem_rowsOf_of_trace (hrows ▸ mem_trace_append hrun) (List.mem_cons_of_mem i hj)

end

/-! ### The rows of the update phase, by what they read of the state it is entered in -/

section
variable (b : BitVec 4) {k j : Button} (h : j ≠ k) (s : State)
include h

/-- What a poll reads, the press of another button leaves alone. -/
theorem pollVector_press_of_ne : pollVector b j (press b k s) = pollVector b j s := by
  have hallowed : allowed (press b k s) j = allowed s j := by cases j <;> simp [allowed]
  rw [pollVector, hallowed, getBit_press_rel_other b h, pollVector]

theorem fires_press_of_ne : fires (press b k s) b j = fires s b j := by
  have hallowed : allowed (press b k s) j = allowed s j := by cases j <;> simp [allowed]
  rw [fires, hallowed, getBit_press_rel_other b h, fires]

end

theorem pressRows_eq (b : BitVec 4) (k : Button) (s : State) :
    pressRows b k s = decodePoll k (pollVector b k s) :: (decodeFire k (fires s b k)).toList := by
  rw [pressRows, actionRows, (getBit_pollButton b k s).1, fires]

theorem pressRows_press_of_ne (b : BitVec 4) {k j : Button} (h : j ≠ k) (s : State) :
    pressRows b j (press b k s) = pressRows b j s := by
  rw [pressRows_eq, pollVector_press_of_ne b h, fires_press_of_ne b h, pressRows_eq]

theorem pressRows_enterUpdate (b : BitVec 4) (k : Button) (s : State) :
    pressRows b k (enterUpdate s) = pressRows b k s := by
  rw [pressRows_eq, pressRows_eq]
  rfl

/-- The rows of the buttons depend on the state `UPD` is entered in alone; those of the dispatch, the tick and
the relay are chosen after the presses (R231). -/
theorem updateRows_eq (b : BitVec 4) (s : State) :
    updateRows b s = pressRows b .inc s ++ (pressRows b .dec s ++ (pressRows b .save s ++ (pressRows b .ss s ++
      [.bcdIsZero (pollAll b (enterUpdate s)).t, decodeSs (ssVector (pollAll b (enterUpdate s))),
       decodeTick (tickVector (dispatch (pollAll b (enterUpdate s)))),
       decodeRelay (relayVector (tick (dispatch (pollAll b (enterUpdate s)))))]))) := by
  rw [updateRows, pressRows_press_of_ne b (j := .dec) (by decide),
    pressRows_press_of_ne b (j := .save) (by decide), pressRows_press_of_ne b (j := .save) (by decide),
    pressRows_press_of_ne b (j := .ss) (by decide), pressRows_press_of_ne b (j := .ss) (by decide),
    pressRows_press_of_ne b (j := .ss) (by decide)]
  simp only [pressRows_enterUpdate]
  rfl

theorem pressRows_subset_updateRows (b : BitVec 4) (k : Button) (s : State) :
    pressRows b k s ⊆ updateRows b s := by
  intro i hi
  rw [updateRows_eq]
  cases k <;> simp only [List.mem_append, hi, true_or, or_true]

theorem pollVector_clearStrobe (b : BitVec 4) (k : Button) (s : State) :
    pollVector b k (clearStrobe s) = pollVector b k s := rfl

theorem pollButton_t (b : BitVec 4) (k : Button) (s : State) : (pollButton b k s).t = s.t := by
  rw [pollButton_eq]
  rfl

/-- A press that does not fire leaves `T` (R233, R234). -/
theorem press_t_of_not_fires {b : BitVec 4} {k : Button} {s : State} (h : fires s b k = false) :
    (press b k s).t = s.t := by
  have hfire : getBit (pollButton b k s).fire k = false := (getBit_pollButton b k s).1.trans h
  rw [press, ← pollButton_t b k s]
  obtain ⟨hfired, -⟩ | ⟨-, ⟨-, hu⟩ | ⟨-, hu⟩⟩ := fireAction_cases k (pollButton b k s)
  · simp [hfire] at hfired
  · rw [hu]
    rfl
  · rw [hu]

theorem press_ss_t (b : BitVec 4) (s : State) : (press b .ss s).t = s.t := rfl

/-- Without INC and DEC the presses leave `T`. -/
theorem pollAll_t_of_no_edit {b : BitVec 4} {s : State} (hinc : fires s b .inc = false)
    (hdec : fires s b .dec = false) : (pollAll b s).t = s.t := by
  obtain ⟨-, -, hsave⟩ := press_save_registers b (press b .dec (press b .inc s))
  rw [pollAll, press_ss_t, hsave, press_t_of_not_fires (by rwa [fires_press_of_ne b (by decide)]),
    press_t_of_not_fires hinc]

theorem fires_of_not_pressed {b : BitVec 4} {k : Button} (h : pressed b k = false) (s : State) :
    fires s b k = false := by
  simp [fires, h]

theorem ssVector_pollAll (b : BitVec 4) (s : State) : ssVector (pollAll b (enterUpdate s)) =
    vec3 (fires s b .ss) s.active (isZero (pollAll b (enterUpdate s)).t) := by
  rw [ssVector, getBit_pollAll_fire_ss, pollAll_active]
  rfl

theorem relayVector_tick_dispatch (b : BitVec 4) (s : State) :
    relayVector (tick (dispatch (pollAll b (enterUpdate s)))) = vec2 s.active (updateBlock b s).active := by
  rw [relayVector, tick_a0, dispatch_a0, pollAll_a0, updateBlock_eq]
  rfl

end Sys2Proof.Machine
end

section
/-! PROOFS. Placed words: the state in which an operation is placed presents the operation's vector to the step
(log 9). -/

namespace Sys2Proof.Machine

/-! ### Phases, digits and accruals -/

theorem decodePhase_mem_rowsOf_placePhase (ph : BitVec 3) (s : State) :
    decodePhase ph ∈ rowsOf (placePhase ph s) := fetch_mem_rowsOf (placePhase ph s)

theorem reset_mem_rowsOf {s : State} (hrst : s.ports.rst = true) : Instr.reset ∈ rowsOf s :=
  fetch_of_rst hrst ▸ fetch_mem_rowsOf s

theorem shownDigit_placeDigit (d : Digit) (s : State) : shownDigit (placeDigit d s) 0 = d := by
  cases hactive : s.active <;> simp [placeDigit, placePhase, shownDigit, source, digitOf, hactive]

theorem decodeDigit_mem_rowsOf_placeDigit (d : Digit) (s : State) : decodeDigit d ∈ rowsOf (placeDigit d s) := by
  have hslot : slotOf (placeDigit d s).ph = some 0 ∧ (placeDigit d s).ports.rst = false := by
    cases hactive : s.active <;> simp [placeDigit, placePhase, slotOf, hactive]
  obtain ⟨hrows, -⟩ := rows_of_slot hslot.2 hslot.1
  apply mem_rowsOf_of_mem_innerRows
  rw [hrows, shownDigit_placeDigit]
  exact List.mem_cons_self

theorem decodeAccrual_mem_rowsOf (active : Bool) (s : State) :
    decodeAccrual active ∈ rowsOf { placePhase 0b000 s with active := active } := by
  obtain ⟨hrows, -⟩ := rows_of_slot (s := { placePhase 0b000 s with active := active }) (i := 0) rfl rfl
  apply mem_rowsOf_of_mem_innerRows
  rw [hrows]
  exact List.mem_cons_of_mem _ List.mem_cons_self

/-! ### Polls and actions -/

/-- The sample in which button `k` alone may be pressed. -/
def sampleOf (k : Button) (pushed : Bool) : BitVec 4 := if pushed then setBit 0b1111 k false else 0b1111

theorem pressed_sampleOf (k j : Button) (pushed : Bool) :
    pressed (sampleOf k pushed) j = (pushed && decide (j = k)) := by
  cases k <;> cases j <;> cases pushed <;> rfl

/-- The block is in `UPD` without reset, with the button samples `b`. -/
def UpdateSees (b : BitVec 4) (s : State) : Prop := s.ports.rst = false ∧ s.ph = 0b100 ∧ s.ports.btnN = b

theorem UpdateSees.rows {b : BitVec 4} {s : State} (h : UpdateSees b s) :
    innerRows s = updateRows b s ∧ enterPhase s = clearStrobe (enterUpdate s) := by
  obtain ⟨hrst, hph, rfl⟩ := h
  exact rows_of_update hrst hph

section
variable {b : BitVec 4} {s : State} (h : UpdateSees b s)
include h

theorem UpdateSees.mem_rowsOf {i : Instr} (hi : i ∈ updateRows b s) : i ∈ rowsOf s :=
  mem_rowsOf_of_mem_innerRows (h.rows.1 ▸ hi)

theorem UpdateSees.poll_mem (k : Button) : decodePoll k (pollVector b k s) ∈ rowsOf s :=
  h.mem_rowsOf (pressRows_subset_updateRows b k s (by simp [pressRows_eq]))

theorem UpdateSees.action_mem {k : Button} {i : Instr} (hi : decodeFire k (fires s b k) = some i) :
    i ∈ rowsOf s :=
  h.mem_rowsOf (pressRows_subset_updateRows b k s (by simp [pressRows_eq, hi]))

theorem UpdateSees.isZero_mem : Instr.bcdIsZero (pollAll b (enterUpdate s)).t ∈ rowsOf s :=
  h.mem_rowsOf (by simp [updateRows_eq])

theorem UpdateSees.dispatch_mem : decodeSs (ssVector (pollAll b (enterUpdate s))) ∈ rowsOf s :=
  h.mem_rowsOf (by simp [updateRows_eq])

theorem UpdateSees.tick_mem : decodeTick (tickVector (dispatch (pollAll b (enterUpdate s)))) ∈ rowsOf s :=
  h.mem_rowsOf (by simp [updateRows_eq])

theorem UpdateSees.relay_mem : decodeRelay (vec2 s.active (updateBlock b s).active) ∈ rowsOf s :=
  h.mem_rowsOf (by simp [updateRows_eq, relayVector_tick_dispatch])

theorem UpdateSees.bcdInc_mem (hfire : fires s b .inc = true) : Instr.bcdInc s.t ∈ rowsOf s := by
  obtain ⟨hrows, henter⟩ := h.rows
  rw [updateRows_eq, pressRows_eq, hfire] at hrows
  refine mem_rowsOf_of_used (is := [decodePoll .inc (pollVector b .inc s)]) (i := .actInc)
    (u := pollButton b .inc (clearStrobe (enterUpdate s))) hrows ?_ ?_
  · rw [henter]
    exact runRows_cons (exec_decodePoll_pollVector b .inc (clearStrobe (enterUpdate s))) []
  · rw [usedRows, pollButton_t]
    exact List.mem_cons_self

theorem UpdateSees.bcdDec_mem (hinc : fires s b .inc = false) (hfire : fires s b .dec = true) :
    Instr.bcdDec s.t ∈ rowsOf s := by
  obtain ⟨hrows, henter⟩ := h.rows
  rw [updateRows_eq, pressRows_eq b .dec, hfire] at hrows
  have hinner := runRows_pressRows_clearStrobe b (k := .inc) (by decide) (enterUpdate s)
  have hpoll := exec_decodePoll_pollVector b .dec (clearStrobe (press b .inc (enterUpdate s)))
  rw [pollVector_clearStrobe, pollVector_press_of_ne b (by decide)] at hpoll
  have ht : (press b .inc (enterUpdate s)).t = s.t := press_t_of_not_fires hinc
  refine mem_rowsOf_of_used (is := pressRows b .inc s ++ [decodePoll .dec (pollVector b .dec s)]) (i := .actDec)
    (u := pollButton b .dec (clearStrobe (press b .inc (enterUpdate s)))) (by rw [hrows, List.append_assoc]; rfl)
    ?_ ?_
  · rw [pressRows_enterUpdate] at hinner
    rw [henter, runRows_append hinner]
    exact runRows_cons hpoll []
  · rw [usedRows, pollButton_t, ← ht]
    exact List.mem_cons_self

end

theorem updateSees_placePoll (k : Button) (a p l : Bool) (s : State) :
    UpdateSees (sampleOf k p) (placePoll k a p l s) := by
  cases k <;> exact ⟨rfl, rfl, rfl⟩

/-- A placed poll presents its vector; SS is allowed in both modes (R154). -/
theorem pollVector_placePoll {k : Button} {a : Bool} (ha : k = .ss → a = true) (p l : Bool) (s : State) :
    pollVector (sampleOf k p) k (placePoll k a p l s) = vec3 a p l := by
  have hrel : getBit (placePoll k a p l s).rel k = l := by
    cases k <;> exact getBit_setBit_same _ _ l
  have hallowed : allowed (placePoll k a p l s) k = a := by
    cases k with
    | inc | dec | save => exact Bool.not_not a
    | ss => exact (ha rfl).symm
  rw [pollVector, hrel, hallowed, pressed_sampleOf]
  simp

theorem decodePoll_mem_rowsOf_placePoll {k : Button} {a : Bool} (ha : k = .ss → a = true) (p l : Bool) (s : State) :
    decodePoll k (vec3 a p l) ∈ rowsOf (placePoll k a p l s) := by
  rw [← pollVector_placePoll ha p l s]
  exact (updateSees_placePoll k a p l s).poll_mem k

/-- A press placed with its latch set fires, and no other button does. -/
theorem fires_placePoll (k j : Button) (s : State) :
    fires (placePoll k true true true s) (sampleOf k true) j = decide (j = k) := by
  by_cases hj : j = k
  · subst hj
    have hrel : getBit (placePoll j true true true s).rel j = true := by
      cases j <;> exact getBit_setBit_same _ _ true
    have hallowed : allowed (placePoll j true true true s) j = true := by cases j <;> rfl
    simp [fires, hallowed, hrel, pressed_sampleOf]
  · simp [fires, pressed_sampleOf, hj]

theorem action_mem_rowsOf_placePoll {k : Button} {i : Instr} (hi : decodeFire k true = some i) (s : State) :
    i ∈ rowsOf (placePoll k true true true s) :=
  (updateSees_placePoll k true true true s).action_mem (k := k) (by simpa [fires_placePoll] using hi)

theorem bcdInc_mem_rowsOf_placePoll (s : State) : Instr.bcdInc s.t ∈ rowsOf (placePoll .inc true true true s) :=
  (updateSees_placePoll .inc true true true s).bcdInc_mem (fires_placePoll .inc .inc s)

theorem bcdDec_mem_rowsOf_placePoll (s : State) : Instr.bcdDec s.t ∈ rowsOf (placePoll .dec true true true s) :=
  (updateSees_placePoll .dec true true true s).bcdDec_mem (fires_placePoll .dec .inc s) (fires_placePoll .dec .dec s)

theorem bcdIsZero_mem_rowsOf (x : TimeValue) (s : State) :
    Instr.bcdIsZero x ∈ rowsOf { placeUpdate 0b1111 s with t := x } := by
  have hsees : UpdateSees 0b1111 { placeUpdate 0b1111 s with t := x } := ⟨rfl, rfl, rfl⟩
  have ht : (pollAll 0b1111 (enterUpdate { placeUpdate 0b1111 s with t := x })).t = x :=
    pollAll_t_of_no_edit (fires_of_not_pressed rfl _) (fires_of_not_pressed rfl _)
  have hrow := hsees.isZero_mem
  rwa [ht] at hrow

/-! ### The dispatch -/

/-- A placed dispatch is a poll of SS with the mode and a timeout of the wanted zero test. -/
theorem placeDispatch_eq (fired active zero : Bool) (s : State) : ∃ x, isZero x = zero ∧
    placeDispatch fired active zero s = { placePoll .ss true fired true s with active := active, t := x } := by
  unfold placeDispatch
  cases zero
  · cases hz : isZero s.t
    · exact ⟨s.t, hz, if_neg (ne_true_of_eq_false hz)⟩
    · exact ⟨{ s.t with d0 := 1 }, by simp [isZero], if_pos hz⟩
  · exact ⟨zeroTime, rfl, rfl⟩

section
variable (fired active zero : Bool) (s : State)

theorem updateSees_placeDispatch : UpdateSees (sampleOf .ss fired) (placeDispatch fired active zero s) := by
  obtain ⟨x, -, hplace⟩ := placeDispatch_eq fired active zero s
  rw [hplace]
  exact updateSees_placePoll .ss true fired true s

/-- The placed dispatch presents its vector: SS alone is pressed, with its latch set. -/
theorem ssVector_placeDispatch :
    ssVector (pollAll (sampleOf .ss fired) (enterUpdate (placeDispatch fired active zero s))) =
      vec3 fired active zero := by
  obtain ⟨x, hx, hplace⟩ := placeDispatch_eq fired active zero s
  have hother {k : Button} (hk : k ≠ .ss) (u : State) : fires u (sampleOf .ss fired) k = false :=
    fires_of_not_pressed (by rw [pressed_sampleOf]; simp [hk]) u
  have hrel : getBit (placeDispatch fired active zero s).rel .ss = true := by
    rw [hplace]
    exact getBit_setBit_same _ .ss true
  have ht : (placeDispatch fired active zero s).t = x := by rw [hplace]
  have hactive : (placeDispatch fired active zero s).active = active := by rw [hplace]
  rw [ssVector_pollAll, pollAll_t_of_no_edit (hother (by decide) _) (hother (by decide) _), fires_ss, hrel,
    pressed_sampleOf, enterUpdate_t, ht, hx, hactive]
  simp

theorem decodeSs_mem_rowsOf_placeDispatch :
    decodeSs (vec3 fired active zero) ∈ rowsOf (placeDispatch fired active zero s) := by
  rw [← ssVector_placeDispatch fired active zero s]
  exact (updateSees_placeDispatch fired active zero s).dispatch_mem

end

/-! ### The tick -/

section
variable (active due zero : Bool) (s : State)

theorem updateSees_placeTick : UpdateSees 0b1111 (placeTick active due zero s) := ⟨rfl, rfl, rfl⟩

theorem ge_placeTick : decide (1000 ≤ (placeTick active due zero s).acc.toNat) = due := by
  cases due <;> rfl

/-- DEC takes the placed countdown to 0 or to 1. -/
theorem isZero_decTime_placeTick (mode : IllegalDigit) (free : TimeValue) :
    isZero (decTime mode free (placeTick active due zero s).l) = zero := by
  cases zero
  · rw [show (placeTick active due false s).l = ⟨2, 0, 0, 0⟩ from rfl, decTime_stop0 _ _ _ (by decide) (by decide)]
    rfl
  · rw [show (placeTick active due true s).l = ⟨1, 0, 0, 0⟩ from rfl, decTime_stop0 _ _ _ (by decide) (by decide)]
    rfl

/-- No button is pressed, so the tick finds the countdown as placed. -/
theorem tickVector_placeTick :
    tickVector (dispatch (pollAll 0b1111 (enterUpdate (placeTick active due zero s)))) = vec3 active due zero := by
  have hss : getBit (pollAll 0b1111 (enterUpdate (placeTick active due zero s))).fire .ss = false :=
    (getBit_pollAll_fire_ss _ _).trans (fires_of_not_pressed rfl _)
  rw [dispatch_eq, hss]
  simp only [Bool.not_false, if_true, tickVector, ge, zLNext, decIn, evalIsZero_active, evalIsZero_acc, evalIsZero_l,
    pollAll_active, pollAll_acc, pollAll_l, enterUpdate_active, enterUpdate_acc, enterUpdate_l]
  rw [ge_placeTick, isZero_decTime_placeTick]
  rfl

theorem decodeTick_mem_rowsOf_placeTick :
    decodeTick (vec3 active due zero) ∈ rowsOf (placeTick active due zero s) := by
  rw [← tickVector_placeTick active due zero s]
  exact (updateSees_placeTick active due zero s).tick_mem

end

/-! ### The relay -/

/-- What the row of the SS3 vector leaves is what the dispatch leaves. -/
theorem dispatch_eq_of_exec {s t : State} (h : exec (decodeSs (ssVector s)) (evalIsZero s.t s) = .next t) :
    dispatch s = t := Host.Outcome.next.inj ((exec_decodeSs_ssVector s).symm.trans h)

theorem placeDispatch_active (fired active zero : Bool) (s : State) :
    (placeDispatch fired active zero s).active = active := by
  obtain ⟨x, -, hplace⟩ := placeDispatch_eq fired active zero s
  rw [hplace]

theorem relayOn_mem_rowsOf (s : State) : Instr.relayOn ∈ rowsOf (placeDispatch true false false s) := by
  have hstart := dispatch_eq_of_exec (s := pollAll (sampleOf .ss true) (enterUpdate (placeDispatch true false false s)))
    (by rw [ssVector_placeDispatch]; rfl)
  have hactive : (updateBlock (sampleOf .ss true) (placeDispatch true false false s)).active = true := by
    rw [updateBlock_eq, hstart, tick_of_not_due (.inr (by simp))]
    rfl
  have hrow := (updateSees_placeDispatch true false false s).relay_mem
  rwa [placeDispatch_active, hactive] at hrow

theorem relayOff_mem_rowsOf (s : State) : Instr.relayOff ∈ rowsOf (placeDispatch true true false s) := by
  have hstop := dispatch_eq_of_exec (s := pollAll (sampleOf .ss true) (enterUpdate (placeDispatch true true false s)))
    (by rw [ssVector_placeDispatch]; rfl)
  have hactive : (updateBlock (sampleOf .ss true) (placeDispatch true true false s)).active = false := by
    rw [updateBlock_eq, hstop, tick_of_not_due (.inl rfl)]
    rfl
  have hrow := (updateSees_placeDispatch true true false s).relay_mem
  rwa [placeDispatch_active, hactive] at hrow

/-- With no button pressed and no tick due the mode stays. -/
theorem updateBlock_active_placeTick (active zero : Bool) (s : State) :
    (updateBlock 0b1111 (placeTick active false zero s)).active = active := by
  have hss : fires (placeTick active false zero s) 0b1111 .ss = false := fires_of_not_pressed rfl _
  have hearly : ¬ 1000 ≤ (placeTick active false zero s).acc.toNat :=
    of_decide_eq_false (ge_placeTick active false zero s)
  cases updateBlock_countdownChange 0b1111 (placeTick active false zero s) with
  | stop fired | start fired => exact absurd fired (ne_true_of_eq_false hss)
  | autostop was due | countDown was due => exact absurd due hearly
  | keep idle l acc now => exact now

theorem relayHold_mem_rowsOf (active : Bool) (s : State) :
    decodeRelay (vec2 active active) ∈ rowsOf (placeTick active false false s) := by
  have hrow := (updateSees_placeTick active false false s).relay_mem
  rwa [updateBlock_active_placeTick] at hrow

/-! ### Every operation -/

/-- The row placed is among those the next step runs. -/
theorem mem_rowsOf_placeInstr {i : Instr} (hwf : i.wellFormed = true) (hss : ∀ p l, i ≠ .pollDisallowed .ss p l)
    (s : State) : i ∈ rowsOf (placeInstr i s) := by
  cases i with
  | enc0 => exact decodeDigit_mem_rowsOf_placeDigit 0 s
  | enc1 => exact decodeDigit_mem_rowsOf_placeDigit 1 s
  | enc2 => exact decodeDigit_mem_rowsOf_placeDigit 2 s
  | enc3 => exact decodeDigit_mem_rowsOf_placeDigit 3 s
  | enc4 => exact decodeDigit_mem_rowsOf_placeDigit 4 s
  | enc5 => exact decodeDigit_mem_rowsOf_placeDigit 5 s
  | enc6 => exact decodeDigit_mem_rowsOf_placeDigit 6 s
  | enc7 => exact decodeDigit_mem_rowsOf_placeDigit 7 s
  | enc8 => exact decodeDigit_mem_rowsOf_placeDigit 8 s
  | enc9 => exact decodeDigit_mem_rowsOf_placeDigit 9 s
  | encBlankAB d =>
    have hrow := decodeDigit_mem_rowsOf_placeDigit d s
    rwa [decodeDigit_of_blankAB (of_decide_eq_true hwf)] at hrow
  | encBlankCF d =>
    have hrow := decodeDigit_mem_rowsOf_placeDigit d s
    rwa [decodeDigit_of_blankCF (of_decide_eq_true hwf)] at hrow
  | slot0 => exact decodePhase_mem_rowsOf_placePhase 0b000 s
  | slot1 => exact decodePhase_mem_rowsOf_placePhase 0b001 s
  | slot2 => exact decodePhase_mem_rowsOf_placePhase 0b010 s
  | slot3 => exact decodePhase_mem_rowsOf_placePhase 0b011 s
  | update => exact decodePhase_mem_rowsOf_placePhase 0b100 s
  | phIllegal5 => exact decodePhase_mem_rowsOf_placePhase 0b101 s
  | phIllegal67 ph =>
    have codes : ∀ c : BitVec 3, (Instr.phIllegal67 c).wellFormed = true → decodePhase c = .phIllegal67 c := by
      decide
    have hrow := decodePhase_mem_rowsOf_placePhase ph s
    rwa [codes ph hwf] at hrow
  | pollFire k =>
    have hrow := decodePoll_mem_rowsOf_placePoll (k := k) (a := true) (fun _ => rfl) true true s
    rwa [decodePoll_vec3] at hrow
  | pollSuppress k =>
    have hrow := decodePoll_mem_rowsOf_placePoll (k := k) (a := true) (fun _ => rfl) true false s
    rwa [decodePoll_vec3] at hrow
  | pollIdle k latch =>
    have hrow := decodePoll_mem_rowsOf_placePoll (k := k) (a := true) (fun _ => rfl) false latch s
    rwa [decodePoll_vec3] at hrow
  | pollDisallowed k pressed latch =>
    have hk : k = .ss → false = true := fun hk => absurd (hk ▸ rfl) (hss pressed latch)
    have hrow := decodePoll_mem_rowsOf_placePoll hk pressed latch s
    rwa [decodePoll_vec3] at hrow
  | actInc => exact action_mem_rowsOf_placePoll (k := .inc) rfl s
  | actDec => exact action_mem_rowsOf_placePoll (k := .dec) rfl s
  | actSave => exact action_mem_rowsOf_placePoll (k := .save) rfl s
  | start => exact decodeSs_mem_rowsOf_placeDispatch true false false s
  | startRefused => exact decodeSs_mem_rowsOf_placeDispatch true false true s
  | stop zero =>
    have hrow := decodeSs_mem_rowsOf_placeDispatch true true zero s
    rwa [decodeSs_vec3] at hrow
  | ssNone active zero =>
    have hrow := decodeSs_mem_rowsOf_placeDispatch false active zero s
    rwa [decodeSs_vec3] at hrow
  | tickContinue => exact decodeTick_mem_rowsOf_placeTick true true false s
  | tickAutostop => exact decodeTick_mem_rowsOf_placeTick true true true s
  | tickWait zero =>
    have hrow := decodeTick_mem_rowsOf_placeTick true false zero s
    rwa [decodeTick_vec3] at hrow
  | tickIdle due zero =>
    have hrow := decodeTick_mem_rowsOf_placeTick false due zero s
    rwa [decodeTick_vec3] at hrow
  | accrue => exact decodeAccrual_mem_rowsOf true s
  | noAccrue => exact decodeAccrual_mem_rowsOf false s
  | relayOn => exact relayOn_mem_rowsOf s
  | relayOff => exact relayOff_mem_rowsOf s
  | relayHold0 => exact relayHold_mem_rowsOf false s
  | relayHold1 => exact relayHold_mem_rowsOf true s
  | reset => exact reset_mem_rowsOf rfl
  | bcdInc x => exact bcdInc_mem_rowsOf_placePoll { s with t := x }
  | bcdDec x => exact bcdDec_mem_rowsOf_placePoll { s with t := x }
  | bcdIsZero x => exact bcdIsZero_mem_rowsOf x s

/-- Settles O7: a decoded word is well-formed, so placing it presents its row's vector; and the inner rows of a
phase, run in order, are its step. -/
theorem placedWordIsRunNext : Obligations.PlacedWordIsRunNext := by
  refine ⟨fun s nbits w i hdec hss => ?_, fun s => ?_⟩
  · rw [withFetchWord_eq_placeInstr hdec]
    exact mem_rowsOf_placeInstr (decodeTableWord_wellFormed hdec) hss s
  · obtain ⟨v, hrun, hsame⟩ := runRows_innerRows s
    exact ⟨_, v, exec_fetch s, fun hc => step_of_legalConfig hc (exec_fetch s), hrun, hsame⟩

end Sys2Proof.Machine
end

section
/-! PROOFS. The debouncer family (spec/42_debouncer.md): the POLL3 rows, the fires and latches that the update
phase leaves for each button, and the phases that do not look at the buttons. -/

namespace Sys2Proof.Machine

/-! ### The POLL3 rows -/

/-- A debouncer step writes the two bits of its button and nothing else (R151). -/
theorem pollWrite_frame (k : Button) (fired latch : Bool) (s : State) :
    { pollWrite k fired latch s with fire := s.fire, rel := s.rel } = s ∧
    ∀ j, j ≠ k → getBit (pollWrite k fired latch s).fire j = getBit s.fire j ∧
      getBit (pollWrite k fired latch s).rel j = getBit s.rel j :=
  ⟨rfl, fun _ hj => ⟨getBit_setBit_other _ _ hj, getBit_setBit_other _ _ hj⟩⟩

/-- Settles O20: each row is one `pollWrite` of its button. -/
theorem pollRowsWriteFireAndLatch : Obligations.PollRowsWriteFireAndLatch := by
  intro s k p l
  refine ⟨pollWrite k true false s, pollWrite k false false s, pollWrite k false true s, rfl, rfl, rfl, rfl,
    getBit_setBit_same _ _ _, getBit_setBit_same _ _ _, getBit_setBit_same _ _ _, getBit_setBit_same _ _ _,
    getBit_setBit_same _ _ _, getBit_setBit_same _ _ _, fun t ht => ?_⟩
  simp only [List.mem_cons, List.not_mem_nil, or_false] at ht
  obtain rfl | rfl | rfl := ht <;> exact pollWrite_frame k _ _ s

/-! ### The fires and latches of the update phase -/

theorem getBit_press_fire_of_ne (b : BitVec 4) {k j : Button} (h : j ≠ k) (s : State) :
    getBit (press b k s).fire j = getBit s.fire j := by
  rw [press_fire, getBit_setBit_other _ _ h]

theorem getBit_press_fire (b : BitVec 4) (k : Button) (s : State) :
    getBit (press b k s).fire k = fires s b k := by
  rw [press_fire, getBit_setBit_same]

theorem allowed_press (b : BitVec 4) (k j : Button) (s : State) : allowed (press b k s) j = allowed s j := by
  cases j <;> simp [allowed]

theorem getBit_press_rel (b : BitVec 4) (k : Button) (s : State) :
    getBit (press b k s).rel k = (!allowed s k || !pressed b k) := by
  rw [press_rel, getBit_setBit_same]

/-- Each poll decides by the state the update phase is entered in: the presses before it change none of what it
reads, and those after it none of what it wrote. -/
theorem getBit_pollAll (b : BitVec 4) (s : State) (k : Button) :
    getBit (pollAll b s).fire k = fires s b k ∧
    getBit (pollAll b s).rel k = (!allowed s k || !pressed b k) := by
  unfold pollAll
  cases k <;>
    simp only [getBit_press_fire_of_ne b, getBit_press_rel_other b, getBit_press_fire, getBit_press_rel,
      fires_press_of_ne b, allowed_press, ne_eq, reduceCtorEq, not_false_eq_true, and_self]

@[simp] theorem dispatch_fire (s : State) : (dispatch s).fire = s.fire := by rw [dispatch_frame]
@[simp] theorem dispatch_rel (s : State) : (dispatch s).rel = s.rel := by rw [dispatch_frame]
@[simp] theorem tick_fire (s : State) : (tick s).fire = s.fire := by rw [tick_frame]
@[simp] theorem tick_rel (s : State) : (tick s).rel = s.rel := by rw [tick_frame]

/-- The update phase leaves for each button what its poll wrote (R151, R231). -/
theorem getBit_updateBlock (b : BitVec 4) (s : State) (k : Button) :
    getBit (updateBlock b s).fire k = fires s b k ∧
    getBit (updateBlock b s).rel k = (!allowed s k || !pressed b k) := by
  simp only [updateBlock_eq, tick_fire, tick_rel, dispatch_fire, dispatch_rel]
  exact getBit_pollAll b (enterUpdate s) k

/-! ### The buttons outside the update phase -/

/-- `s` with other button levels presented. -/
def withButtons (b : BitVec 4) (s : State) : State := { s with ports := { s.ports with btnN := b } }

/-- A reset, a slot and an illegal phase take the button levels into the synchronizer at most (R155, R280). -/
theorem phaseStep_withButtons {s : State} (h : s.ph ≠ 0b100 ∨ s.ports.rst = true) (b : BitVec 4) :
    ∃ sync, phaseStep (withButtons b s) = { withButtons b (phaseStep s) with btnSync := sync } := by
  obtain ⟨hrst, hu⟩ | ⟨hrst, i, hslot, hu⟩ | ⟨hrst, hph, -⟩ | ⟨hrst, hph, hu⟩ := phaseStep_cases s
  · rw [hu, phaseStep_of_rst (s := withButtons b s) hrst]
    exact ⟨_, rfl⟩
  · rw [hu, phaseStep_of_slot (s := withButtons b s) hrst hslot, slotPhase_eq, slotPhase_eq]
    exact ⟨_, rfl⟩
  · simp [hrst, hph] at h
  · rw [hu, phaseStep_of_illegal (s := withButtons b s) hrst hph]
    exact ⟨_, rfl⟩

/-- The levels of the next step do not depend on those of this one. -/
theorem nextPorts_withButtons (b : BitVec 4) (sync : SyncStages) (s : State) :
    nextPorts { withButtons b s with btnSync := sync } = { nextPorts s with btnSync := sync } := by
  unfold nextPorts
  cases hscript : s.script <;> simp only [withButtons, hscript]

/-- Settles O24: outside the update phase the levels reach the synchronizer alone. -/
theorem buttonsMatterInUpdateOnly : Obligations.ButtonsMatterInUpdateOnly := by
  intro s t b h hstep
  obtain ⟨hc, u, hu, rfl⟩ := step_next hstep
  obtain rfl : phaseStep s = u := by simpa [exec_fetch] using hu
  obtain ⟨sync, hsame⟩ := phaseStep_withButtons h b
  refine ⟨_, step_of_legalConfig (s := withButtons b s) hc (exec_fetch _), ?_⟩
  rw [hsame, nextPorts_withButtons]

end Sys2Proof.Machine
end

section
/-! PROOFS. Held presses over consecutive passes (spec/42_debouncer.md R157 to R159). -/

namespace Sys2Proof.Machine

/-! ### The fires and latches of a pass -/

/-- The frame's accruals touch nothing that a poll reads (R129). -/
theorem getBit_pass (b : BitVec 4) (s : State) (k : Button) :
    getBit (pass b s).fire k = fires s b k ∧
    getBit (pass b s).rel k = (!allowed s k || !pressed b k) := by
  have hallowed : allowed (accrueSlots 4 s) k = allowed s k := by cases k <;> rfl
  have hpolls := getBit_updateBlock b (accrueSlots 4 s) k
  rw [fires, hallowed] at hpolls
  rw [pass_eq]
  exact hpolls

/-- A press fires at the first sample in which its button is allowed with the latch set (R151). -/
theorem getBit_pass_fire_of_armed {b : BitVec 4} {s : State} {k : Button} (hallowed : allowed s k = true)
    (hpressed : pressed b k = true) (hlatch : getBit s.rel k = true) : getBit (pass b s).fire k = true := by
  rw [(getBit_pass b s k).1, fires, hallowed, hpressed, hlatch]
  rfl

theorem allowed_of_idle {s : State} (h : s.active = false) (k : Button) : allowed s k = true := by
  cases k <;> simp [allowed, h]

theorem not_allowed_of_active {s : State} (h : s.active = true) {k : Button} (hk : k ≠ .ss) :
    allowed s k = false := by
  cases k with
  | inc | dec | save => simp [allowed, h]
  | ss => exact absurd rfl hk

/-! ### Consecutive passes -/

/-- A button allowed throughout is allowed in the first pass, and throughout the passes after it. -/
theorem AllowedThroughout.cons {k : Button} {b : BitVec 4} {bs : List (BitVec 4)} {s : State}
    (h : AllowedThroughout k (b :: bs) s) : allowed s k = true ∧ AllowedThroughout k bs (pass b s) := by
  obtain rfl | hidle := h
  · exact ⟨rfl, .inl rfl⟩
  · exact ⟨allowed_of_idle (hidle 0 (Nat.zero_lt_succ _)) k, .inr fun n hn => hidle (n + 1) (Nat.succ_lt_succ hn)⟩

/-- Over passes in which it is allowed, a button is one debouncer, run from its latch on its samples. -/
theorem passFires_eq_pollRun {k : Button} (bs : List (BitVec 4)) {s : State} (h : AllowedThroughout k bs s) :
    passFires k bs s = pollRun (getBit s.rel k) (bs.map fun b => pressed b k) := by
  induction bs generalizing s with
  | nil => rfl
  | cons b bs ih =>
    obtain ⟨hallowed, hrest⟩ := h.cons
    obtain ⟨hfire, hlatch⟩ := getBit_pass b s k
    have hpoll : poll true (pressed b k) (getBit s.rel k) =
        (getBit (pass b s).fire k, getBit (pass b s).rel k) := by
      rw [hfire, hlatch, fires, hallowed]
      cases pressed b k <;> cases getBit s.rel k <;> rfl
    rw [passFires, List.map_cons, pollRun, hpoll, ih hrest]

/-- A press that is held does not fire again: its latch stays clear (R157). -/
theorem pollRun_held_after_fire (ps : List Bool) (h : ∀ p ∈ ps, p = true) :
    pollRun false ps = List.replicate ps.length false := by
  induction ps with
  | nil => rfl
  | cons p ps ih =>
    obtain rfl : p = true := h p List.mem_cons_self
    exact congrArg (false :: ·) (ih fun q hq => h q (List.mem_cons_of_mem _ hq))

/-- A press held from a set latch fires at its first sample only (R157). -/
theorem pollRun_held {ps : List Bool} (h : ∀ p ∈ ps, p = true) (hne : ps ≠ []) :
    pollRun true ps = true :: List.replicate (ps.length - 1) false := by
  cases ps with
  | nil => exact absurd rfl hne
  | cons p ps =>
    obtain rfl : p = true := h p List.mem_cons_self
    exact congrArg (true :: ·) (pollRun_held_after_fire ps fun q hq => h q (List.mem_cons_of_mem _ hq))

/-- A released sample fires nothing and sets the latch, whatever it was (R151). -/
theorem pollRun_released (latch : Bool) (ps : List Bool) :
    pollRun latch (false :: ps) = false :: pollRun true ps := by
  cases latch <;> rfl

/-- Settles O22: the fires over the passes are those of one debouncer on the samples of the button. -/
theorem heldPressFiresOnce : Obligations.HeldPressFiresOnce := by
  intro s k b bs hheld hne
  have hrun : pollRun true (bs.map fun c => pressed c k) = true :: List.replicate (bs.length - 1) false := by
    rw [pollRun_held (by simpa using hheld) (by simpa using hne), List.length_map]
  refine ⟨fun hallowed hlatch => ?_, fun hallowed hreleased => ?_⟩
  · rw [passFires_eq_pollRun bs hallowed, hlatch, hrun]
  · rw [passFires_eq_pollRun (b :: bs) hallowed, List.map_cons, hreleased, pollRun_released, hrun]

/-- A reset sets every latch (R159, R284). -/
theorem getBit_resetBlock_rel (s : State) (k : Button) : getBit (resetBlock s).rel k = true := by
  change getBit 0b1111 k = true
  cases k <;> decide

/-- Settles O23: a disallowed poll sets the latch (R153) and so does a reset, so the press fires at the first
sample in which its button is allowed. -/
theorem heldPressFiresAfterStopAndReset : Obligations.HeldPressFiresAfterStopAndReset := by
  refine ⟨fun s b c k hk hactive _ hended hpressed => ?_, fun s b k hpressed => ⟨resetBlock s, rfl, ?_⟩⟩
  · obtain ⟨hfire, hlatch⟩ := getBit_pass b s k
    rw [not_allowed_of_active hactive hk] at hlatch
    refine ⟨?_, getBit_pass_fire_of_armed (allowed_of_idle hended k) hpressed hlatch⟩
    rw [hfire, fires, not_allowed_of_active hactive hk]
    rfl
  · exact getBit_pass_fire_of_armed (allowed_of_idle rfl k) hpressed (getBit_resetBlock_rel s k)

end Sys2Proof.Machine
end

section
/-! PROOFS. The update phase in closed form (spec/45_pass_sequencer.md R231), and the edits it ignores while
Active (spec/44_countdown_fsm.md R208). -/

namespace Sys2Proof.Machine

/-! ### The timeout -/

/-- What the action of button `k` makes of the timeout (R233, R234); SAVE and SS leave it (R235, R236). -/
def editedTimeout (k : Button) (s : State) : TimeValue :=
  match k with
  | .inc => incIn s s.t
  | .dec => decIn s s.t
  | .save => s.t
  | .ss => s.t

/-- A press edits the timeout exactly if its button fires. -/
theorem press_t (b : BitVec 4) (k : Button) (s : State) :
    (press b k s).t = if fires s b k then editedTimeout k s else s.t := by
  have haction (fired latch : Bool) : (fireAction k (pollWrite k fired latch s)).t =
      if fired then editedTimeout k s else s.t := by
    cases fired
    · cases k <;> simp [fireAction]
    · cases k <;> simp [fireAction, editedTimeout, incIn, decIn]
  rw [press, pollButton_eq]
  exact haction _ _

/-- DEC edits what INC left, and SAVE and SS edit nothing (R231). -/
theorem pollAll_t (b : BitVec 4) (s : State) : (pollAll b s).t =
    if fires s b .dec then editedTimeout .dec (press b .inc s) else (press b .inc s).t := by
  obtain ⟨-, -, hsave⟩ := press_save_registers b (press b .dec (press b .inc s))
  rw [pollAll, press_ss_t, hsave, press_t, fires_press_of_ne b (by decide)]

/-! ### The countdown -/

/-- What the dispatch and the tick make of the countdown: STOP, START, one tick or nothing, in that order of
precedence (R203 to R205, R209). -/
theorem tick_dispatch_countdown (s : State) :
    if getBit s.fire .ss && s.active then
      (tick (dispatch s)).active = false ∧ (tick (dispatch s)).l = s.l ∧ (tick (dispatch s)).acc = s.acc
    else if getBit s.fire .ss && !s.active && !isZero s.t then
      (tick (dispatch s)).active = true ∧ (tick (dispatch s)).l = s.t ∧ (tick (dispatch s)).acc = 0
    else if s.active && decide (1000 ≤ s.acc.toNat) then
      (tick (dispatch s)).l = decIn s s.l ∧ (tick (dispatch s)).acc = s.acc - 1000 ∧
        (tick (dispatch s)).active = !isZero (tick (dispatch s)).l
    else
      (tick (dispatch s)).active = s.active ∧ (tick (dispatch s)).l = s.l ∧ (tick (dispatch s)).acc = s.acc := by
  obtain ⟨hf, ha, hd⟩ | ⟨hf, ha, hz, hd⟩ | ⟨hnone, hd⟩ := dispatch_cases s
  · rw [hd, tick_of_not_due (.inl rfl), if_pos (by simp [hf, ha])]
    exact ⟨rfl, rfl, rfl⟩
  · rw [hd, tick_of_not_due (.inr (by simp)), if_neg (by simp [ha]), if_pos (by simp [hf, ha, hz])]
    exact ⟨rfl, rfl, rfl⟩
  · have hstop : ¬ (getBit s.fire .ss && s.active) = true := by
      obtain hf | ⟨ha, -⟩ := hnone
      · simp [hf]
      · simp [ha]
    have hstart : ¬ (getBit s.fire .ss && !s.active && !isZero s.t) = true := by
      obtain hf | ⟨-, hz⟩ := hnone
      · simp [hf]
      · simp [hz]
    rw [hd, if_neg hstop, if_neg hstart]
    obtain ⟨ha, hdue, hz, ht⟩ | ⟨ha, hdue, hz, ht⟩ | ⟨hidle, ht⟩ := tick_cases (evalIsZero s.t s) <;> rw [ht]
    · rw [if_pos (by simpa using ⟨ha, hdue⟩)]
      exact ⟨rfl, rfl, (congrArg (!·) hz).symm⟩
    · rw [if_pos (by simpa using ⟨ha, hdue⟩)]
      exact ⟨rfl, rfl, ha.trans (congrArg (!·) hz).symm⟩
    · rw [if_neg (by simpa [or_iff_not_imp_left] using hidle)]
      exact ⟨rfl, rfl, rfl⟩

/-! ### The update phase as a whole -/

theorem updateBlock_relay (b : BitVec 4) (s : State) : (updateBlock b s).relay =
    if (updateBlock b s).active = s.active then s.relay else (updateBlock b s).active := by
  rw [updateBlock_eq]

@[simp] theorem updateBlock_a0 (b : BitVec 4) (s : State) : (updateBlock b s).a0 = s.active := by
  simp [updateBlock_eq]

@[simp] theorem updateBlock_script (b : BitVec 4) (s : State) : (updateBlock b s).script = s.script := by
  rw [updateBlock_eq_withContext]
  rfl

/-- Settles O45: the polls by what each writes, the countdown by the dispatch and the tick, and the rest by the
frame of the update phase. -/
theorem updateComputesItsPass : Obligations.UpdateComputesItsPass := by
  intro s f m
  obtain ⟨hstb, hdata⟩ := updateBlock_save_registers s.ports.btnN s
  have hpolls := getBit_updateBlock s.ports.btnN s
  have hcountdown := tick_dispatch_countdown (pollAll s.ports.btnN (enterUpdate s))
  refine ⟨_, Config.freeDigits s.draws, Config.freeDigits (press s.ports.btnN .inc (enterUpdate s)).draws,
    Config.freeDigits (pollAll s.ports.btnN (enterUpdate s)).draws, _, _, exec_update s,
    press_t s.ports.btnN .inc (enterUpdate s), ?_, updateBlock_t _ s, fun k => (hpolls k).1,
    fun k => (hpolls k).2, hstb, ?_, ?_, updateBlock_relay _ s, updateBlock_a0 _ s, updateBlock_digEn _ s, updateBlock_seg _ s, rfl,
    updateBlock_cfg _ s, updateBlock_ports _ s, updateBlock_script _ s, updateBlock_portDraws _ s⟩
  · rw [pollAll_t, editedTimeout, decIn, press_cfg]
    rfl
  · rw [← updateBlock_t]
    exact hdata
  · rw [(getBit_pollAll _ _ _).1, pollAll_active, pollAll_l, pollAll_acc, decIn, pollAll_cfg] at hcountdown
    rw [updateBlock_eq]
    exact hcountdown

/-! ### Edits while Active -/

theorem not_fires_of_active {s : State} (h : s.active = true) (b : BitVec 4) {k : Button} (hk : k ≠ .ss) :
    fires s b k = false := by
  rw [fires, not_allowed_of_active h hk]
  rfl

/-- A disallowed poll does not look at the button (R153). -/
theorem press_of_not_allowed {s : State} {k : Button} (h : allowed s k = false) (b c : BitVec 4) :
    press c k s = press b k s := by
  simp only [press, pollButton_eq, h, Bool.false_and, Bool.not_false, Bool.true_or]

/-- While Active the presses depend on the level of SS alone (R154). -/
theorem pollAll_of_active {s : State} (h : s.active = true) {b c : BitVec 4} (hss : getBit c .ss = getBit b .ss) :
    pollAll c s = pollAll b s := by
  have hedit {u : State} (hu : u.active = true) {k : Button} (hk : k ≠ .ss) : press c k u = press b k u :=
    press_of_not_allowed (not_allowed_of_active hu hk) b c
  have hstart (u : State) : press c .ss u = press b .ss u := by
    simp only [press, pollButton_eq, pressed, hss]
  rw [pollAll, pollAll, hstart, hedit h (by decide), hedit (by simpa using h) (by decide),
    hedit (by simpa using h) (by decide)]

theorem updateBlock_of_active {s : State} (h : s.active = true) {b c : BitVec 4}
    (hss : getBit c .ss = getBit b .ss) : updateBlock c s = updateBlock b s := by
  rw [updateBlock_eq, updateBlock_eq, pollAll_of_active (s := enterUpdate s) h hss]

/-- Settles O36: INC, DEC and SAVE are disallowed, so they do not fire, and the phase does not look at them. -/
theorem editsWhileActiveDoNothing : Obligations.EditsWhileActiveDoNothing := by
  intro s hactive
  have hquiet {k : Button} (hk : k ≠ .ss) : fires s s.ports.btnN k = false := not_fires_of_active hactive _ hk
  obtain ⟨hstb, hdata⟩ := updateBlock_save_registers s.ports.btnN s
  rw [hquiet (by decide)] at hstb hdata
  have ht : (updateBlock s.ports.btnN s).t = s.t := by
    rw [updateBlock_t]
    exact pollAll_t_of_no_edit (s := enterUpdate s) (hquiet (k := .inc) (by decide)) (hquiet (k := .dec) (by decide))
  refine ⟨_, exec_update s, ht, hstb, hdata, fun k hk => ?_, fun b hss => ⟨_, exec_update _, ?_⟩⟩
  · obtain ⟨hfire, hlatch⟩ := getBit_updateBlock s.ports.btnN s k
    rw [hquiet hk] at hfire
    rw [not_allowed_of_active hactive hk] at hlatch
    exact ⟨hfire, hlatch⟩
  · have hsame : updateView (withButtons b s) = updateView s := rfl
    change (updateBlock b (withButtons b s)).l = _ ∧ (updateBlock b (withButtons b s)).acc = _ ∧
      (updateBlock b (withButtons b s)).active = _
    rw [updateBlock_congr hsame, updateBlock_of_active hactive hss]
    exact ⟨rfl, rfl, rfl⟩

end Sys2Proof.Machine
end

section
/-! PROOFS. The BCD counter (spec/43_bcd_counter.md R170 to R176): INC and DEC as counting modulo 10000 on the
legal values, the carry and borrow chain on every value, and the zero test. -/

namespace Sys2Proof.Machine

/-! ### The zero test (R173) -/

theorem isZero_iff_digitOf (x : TimeValue) : isZero x = true ↔ ∀ i, digitOf x i = 0 := by
  simp [isZero, Fin.forall_fin_succ, digitOf, and_assoc]

theorem isZero_iff_pack (x : TimeValue) : isZero x = true ↔ pack x = 0x0000 := by
  rw [isZero_iff]
  constructor
  · rintro rfl
    rfl
  · intro h
    rw [← unpack_pack x, h]
    rfl

/-- Settles O29: the row's test of the digits is a test of the packed value, and both vectors take it as bit 0. -/
theorem zeroTestIsExact : Obligations.ZeroTestIsExact := by
  intro s x
  have hpacked : isZero x = decide (pack x = 0x0000) := Bool.eq_iff_iff.2 (by simpa using isZero_iff_pack x)
  refine ⟨?_, isZero_iff_digitOf x, isZero_iff_pack x, (vec3_bits _ _ _).2.2, (vec3_bits _ _ _).2.2⟩
  rw [← hpacked]
  rfl

/-! ### Counting modulo 10000 (R174) -/

theorem timeVal_lt {x : TimeValue} (hx : legalTime x = true) : timeVal x < 10000 := by
  obtain ⟨h0, h1, h2, h3⟩ := (legalTime_iff x).1 hx
  simp only [timeVal]
  omega

/-- A legal time value is the one spelling of its value. -/
theorem eq_of_timeVal_eq {x y : TimeValue} (hx : legalTime x = true) (hy : legalTime y = true)
    (h : timeVal x = timeVal y) : x = y := by
  obtain ⟨hx0, hx1, hx2, hx3⟩ := (legalTime_iff x).1 hx
  obtain ⟨hy0, hy1, hy2, hy3⟩ := (legalTime_iff y).1 hy
  simp only [timeVal] at h
  have h0 : x.d0 = y.d0 := BitVec.eq_of_toNat_eq (by omega)
  have h1 : x.d1 = y.d1 := BitVec.eq_of_toNat_eq (by omega)
  have h2 : x.d2 = y.d2 := BitVec.eq_of_toNat_eq (by omega)
  have h3 : x.d3 = y.d3 := BitVec.eq_of_toNat_eq (by omega)
  cases x
  cases y
  simp_all only

theorem isZero_iff_timeVal {x : TimeValue} (hx : legalTime x = true) : isZero x = true ↔ timeVal x = 0 :=
  ⟨timeVal_of_isZero, fun h => (isZero_iff x).2 (eq_of_timeVal_eq hx rfl h)⟩

/-- By the place where the carry stops. -/
theorem timeVal_incTime {x : TimeValue} (hx : legalTime x = true) (mode : IllegalDigit) (free : TimeValue) :
    timeVal (incTime mode free x) = (timeVal x + 1) % 10000 := by
  obtain ⟨h0, h1, h2, h3⟩ := (legalTime_iff x).1 hx
  have hsucc (d : Digit) (hd : d.toNat < 9) : (d + 1).toNat = d.toNat + 1 := by bv_omega
  have hzero : (0 : Digit).toNat = 0 := rfl
  obtain h0 | h0 := Nat.lt_or_eq_of_le h0
  · rw [incTime_stop0 mode free x h0]
    simp only [timeVal, hsucc x.d0 h0]
    omega
  obtain h1 | h1 := Nat.lt_or_eq_of_le h1
  · rw [incTime_stop1 mode free x h0 h1]
    simp only [timeVal, hsucc x.d1 h1, hzero]
    omega
  obtain h2 | h2 := Nat.lt_or_eq_of_le h2
  · rw [incTime_stop2 mode free x h0 h1 h2]
    simp only [timeVal, hsucc x.d2 h2, hzero]
    omega
  obtain h3 | h3 := Nat.lt_or_eq_of_le h3
  · rw [incTime_stop3 mode free x h0 h1 h2 h3]
    simp only [timeVal, hsucc x.d3 h3, hzero]
    omega
  · rw [incTime_wrap mode free x h0 h1 h2 h3]
    simp only [timeVal, h0, h1, h2, h3]
    rfl

theorem timeVal_decTime_mod {x : TimeValue} (hx : legalTime x = true) (mode : IllegalDigit) (free : TimeValue) :
    timeVal (decTime mode free x) = (timeVal x + 9999) % 10000 := by
  obtain hzero | hpos := Nat.eq_zero_or_pos (timeVal x)
  · rw [(isZero_iff x).1 ((isZero_iff_timeVal hx).2 hzero), decTime_wrap mode free zeroTime rfl rfl rfl rfl]
    rfl
  · have hlt := timeVal_lt hx
    rw [timeVal_decTime hx hpos]
    omega

/-- A chain whose digit steps keep the legal digits never reaches an illegal one among them. -/
theorem chainReachesIllegal_of_legal {f : Digit → DigitStep}
    (hf : ∀ d : Digit, d.toNat ≤ 9 → (f d).legal = true) {ds : List Digit} (hds : ∀ d ∈ ds, d.toNat ≤ 9) :
    chainReachesIllegal f ds = false := by
  induction ds with
  | nil => rfl
  | cons d ds ih =>
    have hd := hf d (hds d List.mem_cons_self)
    cases hstep : f d with
    | carry e => simpa [chainReachesIllegal, hstep] using ih fun c hc => hds c (List.mem_cons_of_mem d hc)
    | stop e => simp [chainReachesIllegal, hstep]
    | illegal => simp [hstep, DigitStep.legal] at hd

theorem takesDraw_of_legal {f : Digit → DigitStep} (hf : ∀ d : Digit, d.toNat ≤ 9 → (f d).legal = true)
    {x : TimeValue} (hx : legalTime x = true) (s : State) : takesDraw f s x = false := by
  have hdigits : ∀ d ∈ digits x, d.toNat ≤ 9 := by simpa [digits] using (legalTime_iff x).1 hx
  rw [takesDraw, chainReachesIllegal_of_legal hf hdigits, Bool.and_false]

theorem evalInc_of_legal {x : TimeValue} (hx : legalTime x = true) (s : State) :
    evalInc x s = { s with bcdOut := incIn s x } := by
  simp [evalInc, takesDraw_of_legal incDigit_legal hx s]

theorem evalDec_of_legal {x : TimeValue} (hx : legalTime x = true) (s : State) :
    evalDec x s = { s with bcdOut := decIn s x } := by
  simp [evalDec, takesDraw_of_legal decDigit_legal hx s]

/-- Settles O25: on a legal value no draw is taken, and INC and DEC count by one. -/
theorem bcdRowsCountModTenThousand : Obligations.BcdRowsCountModTenThousand := by
  intro s x hx
  exact ⟨⟨incIn s x, congrArg _ (evalInc_of_legal hx s), legalTime_incTime hx _ _, timeVal_incTime hx _ _⟩,
    ⟨decIn s x, congrArg _ (evalDec_of_legal hx s), legalTime_decTime hx _ _, timeVal_decTime_mod hx _ _⟩,
    isZero_iff_timeVal hx⟩

/-! ### The inverse law (R175) -/

theorem legalTime_iterate_incTime {x : TimeValue} (hx : legalTime x = true) (mode : IllegalDigit)
    (free : TimeValue) (n : Nat) : legalTime ((incTime mode free)^[n] x) = true := by
  induction n with
  | zero => exact hx
  | succ n ih =>
    rw [Function.iterate_succ_apply']
    exact legalTime_incTime ih mode free

theorem timeVal_iterate_incTime {x : TimeValue} (hx : legalTime x = true) (mode : IllegalDigit)
    (free : TimeValue) (n : Nat) : timeVal ((incTime mode free)^[n] x) = (timeVal x + n) % 10000 := by
  induction n with
  | zero => exact (Nat.mod_eq_of_lt (timeVal_lt hx)).symm
  | succ n ih =>
    rw [Function.iterate_succ_apply', timeVal_incTime (legalTime_iterate_incTime hx mode free n), ih]
    omega

/-- Settles O26: legal values are told apart by the value they spell, which counts modulo 10000. -/
theorem incrementAndDecrementInvert : Obligations.IncrementAndDecrementInvert := by
  intro m f g x
  refine ⟨fun hx => ?_, incTime_wrap m f _ rfl rfl rfl rfl, decTime_wrap m f _ rfl rfl rfl rfl⟩
  have hlt := timeVal_lt hx
  have hinc := legalTime_incTime hx m f
  have hdec := legalTime_decTime hx m f
  refine ⟨eq_of_timeVal_eq (legalTime_decTime hinc m g) hx ?_, eq_of_timeVal_eq (legalTime_incTime hdec m g) hx ?_,
    eq_of_timeVal_eq (legalTime_iterate_incTime hx m f 10000) hx ?_⟩
  · rw [timeVal_decTime_mod hinc, timeVal_incTime hx]
    omega
  · rw [timeVal_incTime hdec, timeVal_decTime_mod hx]
    omega
  · rw [timeVal_iterate_incTime hx]
    omega

/-! ### The chain on every value (R171, R172, R176) -/

theorem digitOf_ofDigits (ds : List Digit) (i : Fin 4) : digitOf (ofDigits ds) i = ds.getD i.val 0 := by
  fin_cases i <;> rfl

@[simp] theorem length_digits (x : TimeValue) : (digits x).length = 4 := rfl

theorem digits_getElem? (x : TimeValue) (i : Fin 4) : (digits x)[i.val]? = some (digitOf x i) := by
  fin_cases i <;> rfl

theorem drop_digits (x : TimeValue) (j : Fin 4) :
    (digits x).drop j.val = digitOf x j :: (digits x).drop (j.val + 1) := by
  fin_cases j <;> rfl

theorem digits_eq_of_below {x : TimeValue} {j : Fin 4} {c : Digit} (h : ∀ i < j, digitOf x i = c) :
    digits x = List.replicate j.val c ++ (digits x).drop j.val := by
  have hbelow : (digits x).take j.val = List.replicate j.val c := by
    refine List.ext_getElem? fun i => ?_
    by_cases hi : i < j.val
    · rw [List.getElem?_take_of_lt hi, List.getElem?_replicate_of_lt hi]
      exact (digits_getElem? x ⟨i, hi.trans j.isLt⟩).trans (congrArg some (h ⟨i, hi.trans j.isLt⟩ hi))
    · simp [hi]
  rw [← hbelow, List.take_append_drop]

/-- `y` with digit `j` replaced by `d` and the digits below by `e`. -/
def spliceDigits (j : Fin 4) (e d : Digit) (y : TimeValue) : TimeValue :=
  ofDigits (List.replicate j.val e ++ d :: (digits y).drop (j.val + 1))

section
variable {j i : Fin 4} (e d : Digit) (y : TimeValue)

theorem digitOf_ofDigits_replicate_append (h : i < j) (ds : List Digit) :
    digitOf (ofDigits (List.replicate j.val e ++ ds)) i = e := by
  have hi : i.val < j.val := h
  rw [digitOf_ofDigits, List.getD_append _ _ _ _ (by simpa using hi)]
  simp [hi]

theorem digitOf_spliceDigits_same : digitOf (spliceDigits j e d y) j = d := by
  rw [spliceDigits, digitOf_ofDigits]
  simp

theorem digitOf_spliceDigits_of_gt (h : j < i) : digitOf (spliceDigits j e d y) i = digitOf y i := by
  obtain ⟨k, hk⟩ := Nat.exists_eq_add_of_lt (show j.val < i.val from h)
  have hplace : (List.replicate j.val e ++ d :: (digits y).drop (j.val + 1))[i.val]? = (digits y)[i.val]? := by
    rw [List.getElem?_append_right (by simp only [List.length_replicate]; omega), List.length_replicate, hk,
      show j.val + k + 1 - j.val = k + 1 by omega, List.getElem?_cons_succ, List.getElem?_drop,
      Nat.add_right_comm]
  rw [spliceDigits, digitOf_ofDigits, List.getD_eq_getElem?_getD, hplace, digits_getElem?, Option.getD_some]

theorem digitOf_spliceDigits_of_ge (h : j ≤ i) : digitOf (spliceDigits j e (digitOf y j) y) i = digitOf y i := by
  obtain hlt | rfl := lt_or_eq_of_le h
  · exact digitOf_spliceDigits_of_gt e _ y hlt
  · exact digitOf_spliceDigits_same e _ y

end

/-- The common shape of INC and DEC: the chain of a digit step over a time value. -/
def chainTime (f : Digit → DigitStep) (literal : Digit → Digit) (mode : IllegalDigit) (free x : TimeValue) :
    TimeValue := ofDigits (chain f literal mode ((digits x).zip (digits free)))

/-- The common shape of BCD_INC and BCD_DEC: the result bus takes the chain's value, and a draw taken is used up. -/
def evalChain (f : Digit → DigitStep) (literal : Digit → Digit) (x : TimeValue) (s : State) : State :=
  { s with
    bcdOut := chainTime f literal s.cfg.illegalDigit (Config.freeDigits s.draws) x
    draws := if takesDraw f s x then s.draws + 1 else s.draws }

theorem exec_bcdInc (x : TimeValue) (s : State) :
    exec (.bcdInc x) s = .next (evalChain incDigit (fun d => d + 1) x s) := rfl

theorem exec_bcdDec (x : TimeValue) (s : State) :
    exec (.bcdDec x) s = .next (evalChain decDigit (fun d => d - 1) x s) := rfl

section
variable {f : Digit → DigitStep} {c e : Digit} (hroll : f c = .carry e)
include hroll

/-- The chain passes over digits that roll. -/
theorem chain_replicate_append (literal : Digit → Digit) (mode : IllegalDigit) (n : Nat) (ds fs : List Digit)
    (hn : n ≤ fs.length) : chain f literal mode ((List.replicate n c ++ ds).zip fs) =
      List.replicate n e ++ chain f literal mode (ds.zip (fs.drop n)) := by
  induction n generalizing fs with
  | zero => simp
  | succ n ih =>
    cases fs with
    | nil => simp at hn
    | cons g gs => simpa [List.replicate_succ, chain, hroll] using ih gs (by simpa using hn)

theorem chainReachesIllegal_replicate_append (n : Nat) (ds : List Digit) :
    chainReachesIllegal f (List.replicate n c ++ ds) = chainReachesIllegal f ds := by
  induction n with
  | zero => rfl
  | succ n ih => simpa [List.replicate_succ, chainReachesIllegal, hroll] using ih

variable {x : TimeValue} {j : Fin 4} (hx : ∀ i < j, digitOf x i = c)
include hx

theorem chainTime_of_below (literal : Digit → Digit) (mode : IllegalDigit) (free : TimeValue) :
    chainTime f literal mode free x = ofDigits (List.replicate j.val e ++ chain f literal mode
      ((digitOf x j, digitOf free j) :: ((digits x).drop (j.val + 1)).zip ((digits free).drop (j.val + 1)))) := by
  rw [chainTime, digits_eq_of_below hx, chain_replicate_append hroll _ _ _ _ _ j.isLt.le, ← digits_eq_of_below hx,
    drop_digits x, drop_digits free, List.zip_cons_cons]

theorem takesDraw_of_below (s : State) : takesDraw f s x =
    (decide (s.cfg.illegalDigit = .draw) && chainReachesIllegal f (digitOf x j :: (digits x).drop (j.val + 1))) := by
  rw [takesDraw, digits_eq_of_below hx, chainReachesIllegal_replicate_append hroll, ← digits_eq_of_below hx,
    drop_digits]

variable (literal : Digit → Digit) (s : State)

theorem evalChain_below {i : Fin 4} (hi : i < j) : digitOf (evalChain f literal x s).bcdOut i = e := by
  change digitOf (chainTime _ _ _ _ _) i = e
  rw [chainTime_of_below hroll hx]
  exact digitOf_ofDigits_replicate_append e hi _

theorem evalChain_of_stop {d : Digit} (hd : f (digitOf x j) = .stop d) :
    evalChain f literal x s = { s with bcdOut := spliceDigits j e d x } := by
  simp [evalChain, chainTime_of_below hroll hx, takesDraw_of_below hroll hx, chain, chainReachesIllegal, hd,
    spliceDigits, List.map_fst_zip]

theorem evalChain_of_literal (hd : f (digitOf x j) = .illegal) (hm : s.cfg.illegalDigit = .literal) :
    evalChain f literal x s = { s with bcdOut := spliceDigits j e (literal (digitOf x j)) x } := by
  simp [evalChain, chainTime_of_below hroll hx, takesDraw, chain, hd, hm, spliceDigits, List.map_fst_zip]

theorem evalChain_of_draw (hd : f (digitOf x j) = .illegal) (hm : s.cfg.illegalDigit = .draw) :
    evalChain f literal x s = { s with
      bcdOut := spliceDigits j e (digitOf (Config.freeDigits s.draws) j) (Config.freeDigits s.draws)
      draws := s.draws + 1 } := by
  simp [evalChain, chainTime_of_below hroll hx, takesDraw_of_below hroll hx, chain, chainReachesIllegal, hd, hm,
    spliceDigits, List.map_snd_zip]

theorem evalChain_digits_of_literal (hd : f (digitOf x j) = .illegal) (hm : s.cfg.illegalDigit = .literal) :
    let t := evalChain f literal x s
    digitOf t.bcdOut j = literal (digitOf x j) ∧ (∀ i > j, digitOf t.bcdOut i = digitOf x i) ∧ t.draws = s.draws := by
  rw [evalChain_of_literal hroll hx literal s hd hm]
  exact ⟨digitOf_spliceDigits_same e _ x, fun i => digitOf_spliceDigits_of_gt e _ x, rfl⟩

theorem evalChain_digits_of_draw (hd : f (digitOf x j) = .illegal) (hm : s.cfg.illegalDigit = .draw) :
    let t := evalChain f literal x s
    (∀ i ≥ j, digitOf t.bcdOut i = digitOf (Config.freeDigits s.draws) i) ∧ t.draws = s.draws + 1 := by
  rw [evalChain_of_draw hroll hx literal s hd hm]
  exact ⟨fun i => digitOf_spliceDigits_of_ge e _, rfl⟩

theorem evalChain_digits_of_stop {d : Digit} (hd : f (digitOf x j) = .stop d) :
    let t := evalChain f literal x s
    digitOf t.bcdOut j = d ∧ (∀ i > j, digitOf t.bcdOut i = digitOf x i) ∧ t.draws = s.draws := by
  rw [evalChain_of_stop hroll hx literal s hd]
  exact ⟨digitOf_spliceDigits_same e d x, fun i => digitOf_spliceDigits_of_gt e d x, rfl⟩

end

/-- Settles O27: the carry passes the digits 9, and at the digit it reaches `incDigit` decides. -/
theorem incrementMeetsAnIllegalDigit : Obligations.IncrementMeetsAnIllegalDigit := by
  intro s x j hbelow
  have hroll : incDigit 9 = .carry 0 := rfl
  have hx : ∀ i < j, digitOf x i = 9 := fun i hi => BitVec.eq_of_toNat_eq (hbelow i hi)
  exact ⟨_, exec_bcdInc x s, rfl, fun i => evalChain_below hroll hx _ s,
    fun hd => evalChain_digits_of_literal hroll hx _ s (incDigit_illegal hd),
    fun hd => evalChain_digits_of_draw hroll hx _ s (incDigit_illegal hd),
    fun hd => evalChain_digits_of_stop hroll hx _ s (incDigit_lt hd)⟩

/-- Settles O28: the borrow passes the digits 0, and at the digit it reaches `decDigit` decides. -/
theorem decrementMeetsAnIllegalDigit : Obligations.DecrementMeetsAnIllegalDigit := by
  intro s x j hbelow
  have hroll : decDigit 0 = .carry 9 := rfl
  have hx : ∀ i < j, digitOf x i = 0 := fun i hi => BitVec.eq_of_toNat_eq (hbelow i hi)
  exact ⟨_, exec_bcdDec x s, rfl, fun i => evalChain_below hroll hx _ s,
    fun hd => evalChain_digits_of_literal hroll hx _ s (decDigit_illegal hd),
    fun hd => evalChain_digits_of_draw hroll hx _ s (decDigit_illegal hd),
    fun hpos hle => evalChain_digits_of_stop hroll hx _ s (decDigit_pos hpos hle)⟩

end Sys2Proof.Machine
end

section
/-! PROOFS. The countdown family (spec/44_countdown_fsm.md): a STOP and a START press in the update phase, and the
pass in which the automatic stop comes (R201 to R206, R209, R211). -/

namespace Sys2Proof.Machine

/-! ### STOP and START -/

theorem fires_ss_of_armed {s : State} {b : BitVec 4} (hpressed : pressed b .ss = true)
    (hlatch : getBit s.rel .ss = true) : fires s b .ss = true := by
  rw [fires_ss, hpressed, hlatch]
  rfl

/-- Settles O34: in the closed form of the phase STOP comes before the tick, and while Active nothing is edited. -/
theorem stopPreventsThePendingTick : Obligations.StopPreventsThePendingTick := by
  intro s hactive hpressed hlatch
  have hfires : fires s s.ports.btnN .ss = true := fires_ss_of_armed hpressed hlatch
  have hquiet {k : Button} (hk : k ≠ .ss) : fires s s.ports.btnN k = false := not_fires_of_active hactive _ hk
  obtain ⟨t, _, _, _, _, _, hexec, hinc, hdec, ht, -, -, -, -, hcountdown, hrelay, -⟩ := updateComputesItsPass s
  rw [if_neg (by simp [hquiet])] at hinc hdec
  rw [if_pos (by simp [hfires, hactive])] at hcountdown
  obtain ⟨hnow, hl, hacc⟩ := hcountdown
  rw [if_neg (by simp [hnow, hactive]), hnow] at hrelay
  exact ⟨t, hexec, hnow, hl, hacc, by rw [ht, hdec, hinc], hrelay, by simp [source, hnow]⟩

/-- Settles O35: the closed form of the phase tests the edited `T`, and an Inactive phase takes no tick. -/
theorem startIsJudgedAfterEdits : Obligations.StartIsJudgedAfterEdits := by
  intro s hidle hpressed hlatch
  have hfires : fires s s.ports.btnN .ss = true := fires_ss_of_armed hpressed hlatch
  obtain ⟨t, _, _, _, _, _, hexec, -, -, rfl, -, hrel, -, -, hcountdown, hrelay, -⟩ := updateComputesItsPass s
  rw [if_neg (by simp [hidle])] at hcountdown
  have hused : getBit t.rel .ss = false := by
    rw [hrel, hpressed]
    rfl
  refine ⟨t, hexec, hused, fun hnonzero => ?_, fun hzero => ?_⟩
  · rw [if_pos (by simp [hfires, hidle, hnonzero])] at hcountdown
    obtain ⟨hnow, hl, hacc⟩ := hcountdown
    rw [if_neg (by simp [hnow, hidle]), hnow] at hrelay
    exact ⟨hnow, hl, hacc, hrelay⟩
  · rw [if_neg (by simp [hzero]), if_neg (by simp [hidle])] at hcountdown
    obtain ⟨hnow, hl, hacc⟩ := hcountdown
    rw [if_pos hnow] at hrelay
    exact ⟨hnow.trans hidle, hl, hacc, hrelay⟩

/-! ### The automatic stop -/

/-- A due tick at `L = 1` is the automatic stop (R205). -/
theorem CountdownChange.stops_at_one {b : BitVec 4} {s t : State} (h : CountdownChange b s t)
    (hactive : s.active = true) (hdue : 1000 ≤ s.acc.toNat) (hl : legalTime s.l = true)
    (hone : timeVal s.l = 1) (hss : fires s b .ss = false) : t.active = false ∧ t.l = zeroTime := by
  cases h with
  | stop fired was l acc now => simp [hss] at fired
  | start fired was nonzero l acc now => simp [hss] at fired
  | autostop was due zero l acc now => exact ⟨now, (isZero_iff t.l).1 zero⟩
  | countDown was due nonzero l acc now =>
    obtain ⟨free, l⟩ := l
    have hzero : timeVal t.l = 0 := by rw [l, timeVal_decTime hl (by omega), hone]
    have hlegal : legalTime t.l = true := by rw [l, legalTime_decTime hl]
    simp [(isZero_iff_timeVal hlegal).2 hzero] at nonzero
  | keep idle l acc now =>
    have hearly : s.acc.toNat < 1000 := idle.resolve_left (by simp [hactive])
    omega

/-- A pass with `L = 1` whose frame makes the tick due stops the countdown and turns the relay off (R205, R238). -/
theorem pass_stops_at_one {s : State} (hc : legalConfig s.cfg = true) (hactive : s.active = true)
    (hacc : s.acc.toNat < 1000) (hl : legalTime s.l = true) (hone : timeVal s.l = 1) {b : BitVec 4}
    (hss : fires s b .ss = false) (hdue : 1000 ≤ s.acc.toNat + 4 * s.cfg.dwellMs) :
    (pass b s).active = false ∧ (pass b s).l = zeroTime ∧ (pass b s).relay = false := by
  have hsum := toNat_accrueSlots_four_acc hc hactive hacc
  have hwas : (accrueSlots 4 s).active = true := hactive
  obtain ⟨hnow, hzero⟩ := (updateBlock_countdownChange b (accrueSlots 4 s)).stops_at_one hactive (by omega) hl hone hss
  have hrelay := updateBlock_relay b (accrueSlots 4 s)
  rw [if_neg (by simp [hnow, hwas]), hnow] at hrelay
  rw [pass_eq]
  exact ⟨hnow, hzero, hrelay⟩

theorem passes_append (bs cs : List (BitVec 4)) (s : State) : passes (bs ++ cs) s = passes cs (passes bs s) :=
  List.foldl_append

@[simp] theorem passes_cfg (bs : List (BitVec 4)) (s : State) : (passes bs s).cfg = s.cfg := by
  induction bs generalizing s with
  | nil => rfl
  | cons b bs ih => exact (ih (pass b s)).trans (pass_cfg b s)

theorem passFires_append (k : Button) (bs cs : List (BitVec 4)) (s : State) :
    passFires k (bs ++ cs) s = passFires k bs s ++ passFires k cs (passes bs s) := by
  induction bs generalizing s with
  | nil => rfl
  | cons b bs ih => exact congrArg (_ :: ·) (ih (pass b s))

/-- No STOP in the coming passes: no sample of SS in `bs` fires from the latch of `s` (R211). -/
def NoStop (bs : List (BitVec 4)) (s : State) : Prop :=
  silent (getBit s.rel .ss) (bs.map fun b => pressed b .ss) = true

/-- Without a STOP in a list of passes there is none in its first part, nor in the rest from where that leads. -/
theorem NoStop.of_append {bs cs : List (BitVec 4)} {s : State} (h : NoStop (bs ++ cs) s) :
    NoStop bs s ∧ NoStop cs (passes bs s) := by
  have hfires (ds : List (BitVec 4)) (u : State) : NoStop ds u ↔ (passFires .ss ds u).all (fun f => !f) = true := by
    rw [NoStop, silent, passFires_eq_pollRun ds (.inl rfl)]
  rw [hfires, passFires_append, List.all_append, Bool.and_eq_true] at h
  exact h.imp (hfires bs s).2 (hfires cs _).2

/-- `n` comes before the `ceil(250*V/d)`-th pass exactly if the time of `n` passes is below `V` seconds (R211). -/
theorem lt_autostop_pass_iff {d : Nat} (hd : 1 ≤ d) (v n : Nat) :
    n < (250 * v + d - 1) / d ↔ 4 * d * n / 1000 < v := by
  rw [← Nat.add_one_le_iff, Nat.le_div_iff_mul_le hd, Nat.div_lt_iff_lt_mul (by decide), Nat.add_one_mul,
    Nat.mul_assoc, Nat.mul_comm d n]
  omega

/-- Settles O40: before the pass named the frames make fewer than `V` seconds, so the countdown runs; it enters that
pass with `L = 1`, and the pass completes the last second. -/
theorem autoStopComesOnSchedule : Obligations.AutoStopComesOnSchedule := by
  intro s bs hc hactive _ hacc hl hnonzero hsilent hlen
  obtain ⟨hlow, hhigh, -⟩ := (legalConfig_iff s.cfg).1 hc
  have hstart : s.acc.toNat = 0 := by rw [hacc]; rfl
  have hpos : 0 < timeVal s.l := Nat.pos_of_ne_zero fun hv => by simp [(isZero_iff_timeVal hl).2 hv] at hnonzero
  have hpass := lt_autostop_pass_iff hlow (timeVal s.l)
  rw [← hlen] at hpass
  have hruns {cs ds : List (BitVec 4)} (hbs : bs = cs ++ ds) (hbefore : cs.length < bs.length) :
      CountedDown (4 * s.cfg.dwellMs * cs.length) s (passes cs s) := by
    have hquiet : NoStop (cs ++ ds) s := hbs ▸ hsilent
    refine passes_countedDown cs hc hactive (by omega) hl hquiet.of_append.1 ?_
    rw [hstart, Nat.zero_add]
    exact (hpass _).1 hbefore
  have hbefore : ∀ n, n < bs.length → (passes (bs.take n) s).active = true := fun n hn =>
    (hruns (List.take_append_drop n bs).symm (by rw [List.length_take]; omega)).active
  obtain rfl | ⟨cs, b, rfl⟩ := List.eq_nil_or_concat' bs
  · exact absurd ((hpass 0).2 (by simpa using hpos)) (by simp)
  · have hquiet : NoStop (cs ++ [b]) s := hsilent
    obtain ⟨hss, -⟩ := silent_cons hquiet.of_append.2
    obtain ⟨hrunning, hlegal, hval, hrest⟩ := hruns rfl (by simp)
    have hearly := (hpass cs.length).1 (by simp)
    have hlate := (hpass (cs.length + 1)).not.1 (by simp)
    rw [Nat.mul_add_one] at hlate
    rw [hstart, Nat.zero_add] at hval hrest
    have hcfg := passes_cfg cs s
    obtain ⟨hnow, hzero, hrelay⟩ := pass_stops_at_one (hcfg ▸ hc) hrunning (by omega) hlegal (by omega) hss
      (by rw [hcfg]; omega)
    rw [passes_append]
    exact ⟨hnow, hzero, hrelay, hbefore⟩

end Sys2Proof.Machine
end

section
/-! PROOFS. The pass sequencer family (spec/45_pass_sequencer.md): the FIRE rows and the actions they are
(R231, R233 to R236), and presses that one pass takes together (R242, R243). -/

namespace Sys2Proof.Machine

/-! ### FIRE -/

/-- Settles O42: INC and DEC evaluate the BCD row on `T` and move its result to `T`. -/
theorem actionRowsWriteTheirRegisters : Obligations.ActionRowsWriteTheirRegisters :=
  fun _ => ⟨⟨_, _, rfl, rfl⟩, ⟨_, _, rfl, rfl⟩, rfl⟩

theorem decodeFire_eq_none_iff (k : Button) (fired : Bool) :
    decodeFire k fired = none ↔ fired = false ∨ k = .ss := by
  cases fired <;> cases k <;> decide

/-- The row the `fire` bit selects is the button's action (R233 to R235). -/
theorem exec_of_decodeFire {k : Button} {s : State} {i : Instr}
    (h : decodeFire k (getBit s.fire k) = some i) : exec i s = .next (fireAction k s) := by
  obtain ⟨hfire, hk⟩ | ⟨hfire, -⟩ := fireAction_cases k s <;> rw [hfire] at h
  · obtain ⟨rfl, ha⟩ | ⟨rfl, ha⟩ | ⟨rfl, ha⟩ | ⟨rfl, ha⟩ := hk <;> cases h <;> rw [ha] <;> rfl
  · cases h

/-- Without a row the action is the strobe clear of SAVE or nothing (R235, R236). -/
theorem fireAction_of_decodeFire_none {k : Button} {s : State} (h : decodeFire k (getBit s.fire k) = none) :
    fireAction k s = if k = .save then clearStrobe s else s := by
  obtain hfire | rfl := (decodeFire_eq_none_iff k _).1 h
  · obtain ⟨hset, -⟩ | ⟨-, ⟨hk, ha⟩ | ⟨hk, ha⟩⟩ := fireAction_cases k s
    · simp [hfire] at hset
    · rw [ha, if_pos hk]
    · rw [ha, if_neg hk]
  · rfl

/-- Settles O43: by whether the FIRE table has a row for the bit. -/
theorem actionRunsTheRowOfItsFire : Obligations.ActionRunsTheRowOfItsFire :=
  fun _ k => ⟨fun _ => exec_of_decodeFire, fireAction_of_decodeFire_none, decodeFire_eq_none_iff k _⟩

/-! ### Presses taken together -/

theorem fires_eq_pressed {s : State} (hidle : s.active = false) (harmed : s.rel = 0b1111) (b : BitVec 4)
    (k : Button) : fires s b k = pressed b k := by
  have hlatch : getBit s.rel k = true := by
    rw [harmed]
    cases k <;> rfl
  rw [fires, allowed_of_idle hidle, hlatch, Bool.true_and, Bool.and_true]

/-- What the edits of the sample `b` add to `T` modulo 10000: INC one, DEC its opposite (R174). -/
def editCount (b : BitVec 4) : Nat := (if pressed b .inc then 1 else 0) + (if pressed b .dec then 9999 else 0)

/-- The state `t` an Inactive update phase leaves that takes every press of the sample `b`, from `s`: INC and DEC
count, and SAVE and SS use what `T` then is (R231, R242). -/
structure TakesPresses (b : BitVec 4) (s t : State) : Prop where
  legal : legalTime t.t = true
  value : timeVal t.t = (timeVal s.t + editCount b) % 10000
  strobe : t.saveStb = pressed b .save
  saved : pressed b .save = true → t.saveData = pack t.t
  active : t.active = (pressed b .ss && !isZero t.t)
  countdown : t.l = if t.active then t.t else s.l

/-- An edit that counts by `n` from a legal value to a legal value, done or not. -/
theorem counted_ite {x y z : TimeValue} {n : Nat} {edited : Bool} (hx : legalTime x = true)
    (hy : legalTime y = true) (hval : timeVal y = (timeVal x + n) % 10000) (hz : z = if edited then y else x) :
    legalTime z = true ∧ timeVal z = (timeVal x + if edited then n else 0) % 10000 := by
  cases edited
  · exact hz ▸ ⟨hx, (Nat.mod_eq_of_lt (timeVal_lt hx)).symm⟩
  · exact hz ▸ ⟨hy, hval⟩

/-- From the closed form of the phase: every press fires, and no tick is taken while Inactive. -/
theorem update_takesPresses {s : State} (hidle : s.active = false) (harmed : s.rel = 0b1111)
    (hlegal : legalTime s.t = true) {b : BitVec 4} (hb : s.ports.btnN = b) :
    ∃ t, exec .update s = .next t ∧ TakesPresses b s t := by
  subst hb
  obtain ⟨t, _, _, _, _, _, hexec, hinc, hdec, rfl, -, -, hstrobe, hdata, hcountdown, -⟩ := updateComputesItsPass s
  simp only [fires_eq_pressed hidle harmed] at hinc hdec hstrobe hdata hcountdown
  obtain ⟨hlegal1, hval1⟩ := counted_ite hlegal (legalTime_incTime hlegal _ _) (timeVal_incTime hlegal _ _) hinc
  obtain ⟨hlegal2, hval2⟩ :=
    counted_ite hlegal1 (legalTime_decTime hlegal1 _ _) (timeVal_decTime_mod hlegal1 _ _) hdec
  have hstarted : t.active = (pressed s.ports.btnN .ss && !isZero t.t) ∧ t.l = if t.active then t.t else s.l := by
    rw [if_neg (by simp [hidle]), hidle] at hcountdown
    cases hstart : pressed s.ports.btnN .ss && !isZero t.t
    · obtain ⟨hnow, hl, -⟩ : t.active = false ∧ t.l = s.l ∧ _ := by simpa [hstart] using hcountdown
      exact ⟨hnow, by rw [hl, hnow]; rfl⟩
    · obtain ⟨hnow, hl, -⟩ : t.active = true ∧ t.l = t.t ∧ _ := by simpa [hstart] using hcountdown
      exact ⟨hnow, by rw [hl, if_pos hnow]⟩
  exact ⟨t, hexec, hlegal2, by rw [hval2, hval1, Nat.mod_add_mod, Nat.add_assoc, editCount], hstrobe,
    fun hsave => by rw [hdata, if_pos hsave], hstarted.1, hstarted.2⟩

section
variable {b : BitVec 4} {s t : State} (h : TakesPresses b s t)
include h

/-- The edits leave the legal value they count to. -/
theorem TakesPresses.t_eq {x : TimeValue} (hx : legalTime x = true)
    (hval : (timeVal s.t + editCount b) % 10000 = timeVal x) : t.t = x :=
  eq_of_timeVal_eq h.legal hx (h.value.trans hval)

/-- SS starts with a nonzero edited value. -/
theorem TakesPresses.started {x : TimeValue} (ht : t.t = x) (hss : pressed b .ss = true)
    (hnonzero : isZero x = false) : t.t = x ∧ t.active = true ∧ t.l = x := by
  have hnow : t.active = true := by rw [h.active, hss, ht, hnonzero]; rfl
  exact ⟨ht, hnow, by rw [h.countdown, if_pos hnow, ht]⟩

end

/-- Settles O47: each row of R242 is what the presses of its sample make together. -/
theorem simultaneousPresses : Obligations.SimultaneousPresses := by
  intro s hidle harmed hlegal
  have hvalue : timeVal s.t % 10000 = timeVal s.t := Nat.mod_eq_of_lt (timeVal_lt hlegal)
  refine ⟨fun hb => ?_, fun hb => ?_, fun hb => ?_, fun hb hs => ?_, fun hb hs => ?_, fun hb hs => ?_,
    fun hb => ?_⟩ <;>
  obtain ⟨t, hexec, ht⟩ := update_takesPresses hidle harmed hlegal hb <;>
  refine ⟨t, hexec, ?_⟩
  · exact ⟨ht.t_eq hlegal (by rw [show editCount 0xC = 10000 from rfl, Nat.add_mod_right, hvalue]), ht.active⟩
  · exact ⟨ht.value, ht.strobe, ht.saved rfl⟩
  · exact ⟨ht.value, ht.strobe, ht.saved rfl⟩
  · exact ht.started (ht.t_eq rfl (by rw [hs]; rfl)) rfl rfl
  · have hzero : t.t = ⟨0, 0, 0, 0⟩ := ht.t_eq rfl (by rw [hs]; rfl)
    have hnow : t.active = false := by rw [ht.active, hzero]; rfl
    exact ⟨hzero, hnow, by rw [ht.countdown, hnow]; rfl⟩
  · exact ht.started (ht.t_eq rfl (by rw [hs]; rfl)) rfl rfl
  · have hsame : t.t = s.t := ht.t_eq hlegal hvalue
    refine ⟨hsame, ht.strobe, hsame ▸ ht.saved rfl, ?_⟩
    rw [ht.active, hsame]
    exact iff_of_eq (Bool.not_eq_true' (isZero s.t))

end Sys2Proof.Machine
end

section
/-! PROOFS. The encoding family (spec/30_encoding.md section 8): the decoder and the encoder are each
other's inverse on well-formed operations and tagged words. -/

namespace Sys2Proof.Machine

/-! ### Decoding an encoded operation -/

/-- The round trip of every row, gathered from the rows' own laws. -/
theorem decode_encode : ∀ i : Instr, Laws.RoundTrip.Statement i
  | .enc0 => Laws.RoundTrip.enc0
  | .enc1 => Laws.RoundTrip.enc1
  | .enc2 => Laws.RoundTrip.enc2
  | .enc3 => Laws.RoundTrip.enc3
  | .enc4 => Laws.RoundTrip.enc4
  | .enc5 => Laws.RoundTrip.enc5
  | .enc6 => Laws.RoundTrip.enc6
  | .enc7 => Laws.RoundTrip.enc7
  | .enc8 => Laws.RoundTrip.enc8
  | .enc9 => Laws.RoundTrip.enc9
  | .encBlankAB d => Laws.RoundTrip.encBlankAB d
  | .encBlankCF d => Laws.RoundTrip.encBlankCF d
  | .slot0 => Laws.RoundTrip.slot0
  | .slot1 => Laws.RoundTrip.slot1
  | .slot2 => Laws.RoundTrip.slot2
  | .slot3 => Laws.RoundTrip.slot3
  | .update => Laws.RoundTrip.update
  | .phIllegal5 => Laws.RoundTrip.phIllegal5
  | .phIllegal67 ph => Laws.RoundTrip.phIllegal67 ph
  | .pollFire k => Laws.RoundTrip.pollFire k
  | .pollSuppress k => Laws.RoundTrip.pollSuppress k
  | .pollIdle k latch => Laws.RoundTrip.pollIdle k latch
  | .pollDisallowed k pressed latch => Laws.RoundTrip.pollDisallowed k pressed latch
  | .actInc => Laws.RoundTrip.actInc
  | .actDec => Laws.RoundTrip.actDec
  | .actSave => Laws.RoundTrip.actSave
  | .start => Laws.RoundTrip.start
  | .startRefused => Laws.RoundTrip.startRefused
  | .stop zT => Laws.RoundTrip.stop zT
  | .ssNone active zT => Laws.RoundTrip.ssNone active zT
  | .tickContinue => Laws.RoundTrip.tickContinue
  | .tickAutostop => Laws.RoundTrip.tickAutostop
  | .tickWait zL => Laws.RoundTrip.tickWait zL
  | .tickIdle ge zL => Laws.RoundTrip.tickIdle ge zL
  | .accrue => Laws.RoundTrip.accrue
  | .noAccrue => Laws.RoundTrip.noAccrue
  | .relayOn => Laws.RoundTrip.relayOn
  | .relayOff => Laws.RoundTrip.relayOff
  | .relayHold0 => Laws.RoundTrip.relayHold0
  | .relayHold1 => Laws.RoundTrip.relayHold1
  | .reset => Laws.RoundTrip.reset
  | .bcdInc x => Laws.RoundTrip.bcdInc x
  | .bcdDec x => Laws.RoundTrip.bcdDec x
  | .bcdIsZero x => Laws.RoundTrip.bcdIsZero x

/-- Settles O2: each row's round trip, with the bytes that follow carried along. -/
theorem decodeEncodeAgree : Obligations.DecodeEncodeAgree :=
  fun i rest hwf => decode_encode i hwf rest

/-! ### Encoding a decoded word -/

/-- `i` is well-formed, and its words are the vector byte `v` at `site`, with no operand bytes. -/
abbrev EncodesAt (site : Site) (v : Byte) (i : Instr) : Prop :=
  i.wellFormed = true ∧ encode i = [v, site.tag]

theorem siteOf_eq_some {tag : Byte} {site : Site} (h : siteOf tag = some site) : tag = site.tag := by
  have hall : ∀ t : Byte, ∀ s ∈ siteOf t, t = s.tag := by decide
  exact hall tag site h

/-- A narrowed vector byte is the narrow value with zeros above it. -/
theorem eq_ofNat_of_narrow_eq_ok {w : Nat} {v : Byte} {d : BitVec w} (h : narrow w v = .ok d) :
    v = BitVec.ofNat 8 d.toNat := by
  unfold narrow at h
  split at h
  next hfits =>
    cases h
    rw [BitVec.toNat_setWidth, Nat.mod_eq_of_lt hfits, BitVec.ofNat_toNat, BitVec.setWidth_eq]
  next => cases h

/-- A format whose every vector decodes to a row that encodes back to it decodes each byte so. -/
theorem encodesAt_of_map_narrow {w : Nat} {site : Site} {v : Byte} {i : Instr} {f : BitVec w → Instr}
    (hf : ∀ d, EncodesAt site (BitVec.ofNat 8 d.toNat) (f d)) (h : (narrow w v).map f = .ok i) :
    EncodesAt site v i := by
  cases hd : narrow w v with
  | error e =>
    rw [hd] at h
    cases h
  | ok d =>
    rw [hd] at h
    cases h
    exact eq_ofNat_of_narrow_eq_ok hd ▸ hf d

theorem encodesAt_decodeDigit : ∀ d : Digit,
    EncodesAt .digit (BitVec.ofNat 8 d.toNat) (decodeDigit d) := by decide

theorem encodesAt_decodePhase : ∀ ph : BitVec 3,
    EncodesAt .phase (BitVec.ofNat 8 ph.toNat) (decodePhase ph) := by decide

theorem encodesAt_decodePoll (k : Button) : ∀ d : BitVec 3,
    EncodesAt (.poll k) (BitVec.ofNat 8 d.toNat) (decodePoll k d) := by
  cases k <;> decide

theorem encodesAt_decodeFire (k : Button) : ∀ d : BitVec 1, ∀ i ∈ decodeFire k (d.getLsbD 0),
    EncodesAt (.fire k) (BitVec.ofNat 8 d.toNat) i := by
  cases k <;> decide

theorem encodesAt_decodeSs : ∀ d : BitVec 3,
    EncodesAt .dispatch (BitVec.ofNat 8 d.toNat) (decodeSs d) := by decide

theorem encodesAt_decodeTick : ∀ d : BitVec 3,
    EncodesAt .tick (BitVec.ofNat 8 d.toNat) (decodeTick d) := by decide

theorem encodesAt_decodeAccrual : ∀ d : BitVec 1,
    EncodesAt .accrual (BitVec.ofNat 8 d.toNat) (decodeAccrual (d.getLsbD 0)) := by decide

theorem encodesAt_decodeRelay : ∀ d : BitVec 2,
    EncodesAt .relay (BitVec.ofNat 8 d.toNat) (decodeRelay d) := by decide

theorem encodesAt_reset : ∀ d : BitVec 1, d.getLsbD 0 = true →
    EncodesAt .rst (BitVec.ofNat 8 d.toNat) .reset := by decide

/-- What a site's format decodes encodes back to the vector byte and the site's tag. -/
theorem encodesAt_of_decodeVector {site : Site} {v : Byte} {i : Instr} (hsite : site ≠ .untagged)
    (h : decodeVector site v = .ok i) : EncodesAt site v i := by
  cases site with
  | untagged => exact absurd rfl hsite
  | digit => exact encodesAt_of_map_narrow encodesAt_decodeDigit h
  | phase => exact encodesAt_of_map_narrow encodesAt_decodePhase h
  | poll k => exact encodesAt_of_map_narrow (encodesAt_decodePoll k) h
  | fire k =>
    simp only [decodeVector] at h
    split at h
    next => cases h
    next d hd =>
      split at h
      next hj =>
        cases h
        exact eq_ofNat_of_narrow_eq_ok hd ▸ encodesAt_decodeFire k d _ hj
      next => cases h
  | dispatch => exact encodesAt_of_map_narrow encodesAt_decodeSs h
  | tick => exact encodesAt_of_map_narrow encodesAt_decodeTick h
  | accrual => exact encodesAt_of_map_narrow encodesAt_decodeAccrual h
  | relay => exact encodesAt_of_map_narrow encodesAt_decodeRelay h
  | rst =>
    simp only [decodeVector] at h
    split at h
    next => cases h
    next d hd =>
      split at h
      next hbit =>
        cases h
        exact eq_ofNat_of_narrow_eq_ok hd ▸ encodesAt_reset d hbit
      next => cases h
  | bcdInc => cases h
  | bcdDec => cases h
  | bcdIsZero => cases h

/-- A BCD word has a zero vector byte and at least the two bytes of its time value. -/
theorem decodeBcd_eq_ok {mk : TimeValue → Instr} {v : Byte} {bs rest : List Byte} {i : Instr}
    (h : decodeBcd mk v bs = .ok (i, rest)) :
    v = 0 ∧ ∃ lo hi, bs = lo :: hi :: rest ∧ i = mk (unpack (hi ++ lo)) := by
  unfold decodeBcd at h
  split at h
  next => cases h
  next hzero =>
    split at h
    next lo hi _ =>
      cases h
      exact ⟨not_not.mp hzero, lo, hi, rfl, rfl⟩
    next => cases h

/-- Two bytes read as a time value are written back as they stood, low byte first. -/
theorem bcdWord_unpack_append (site : Site) (lo hi : Byte) :
    bcdWord site (unpack (hi ++ lo)) = [0, site.tag, lo, hi] := by
  have hlo : (hi ++ lo).setWidth 8 = lo := BitVec.setWidth_append_eq_right
  have hhi : (hi ++ lo).extractLsb' 8 8 = hi := BitVec.extractLsb'_append_eq_left
  rw [bcdWord, pack_unpack, hlo, hhi]

/-- `mk` makes a BCD row of `site`: any time value is its operand, written after the tag. -/
def BcdSite (site : Site) (mk : TimeValue → Instr) : Prop :=
  ∀ x, (mk x).wellFormed = true ∧ encode (mk x) = bcdWord site x

theorem eq_encode_of_decodeBcd {site : Site} {mk : TimeValue → Instr} (hmk : BcdSite site mk)
    {v : Byte} {bs rest : List Byte} {i : Instr} (h : decodeBcd mk v bs = .ok (i, rest)) :
    i.wellFormed = true ∧ v :: site.tag :: bs = encode i ++ rest := by
  obtain ⟨rfl, lo, hi, rfl, rfl⟩ := decodeBcd_eq_ok h
  obtain ⟨hwf, hencode⟩ := hmk (unpack (hi ++ lo))
  exact ⟨hwf, by rw [hencode, bcdWord_unpack_append]; rfl⟩

/-- What a word that decodes is: a BCD word, or a vector byte at a site, with the bytes left after it. -/
theorem decode_eq_ok {bs rest : List Byte} {i : Instr} (h : decode bs = .ok (i, rest)) :
    ∃ v site tl, bs = v :: site.tag :: tl ∧
      ((∃ mk, BcdSite site mk ∧ decodeBcd mk v tl = .ok (i, rest)) ∨
        (decodeVector site v = .ok i ∧ tl = rest)) := by
  unfold decode at h
  split at h
  next v tag tl =>
    split at h
    next => cases h
    next hs => exact ⟨v, .bcdInc, tl, by rw [siteOf_eq_some hs], .inl ⟨.bcdInc, fun _ => ⟨rfl, rfl⟩, h⟩⟩
    next hs => exact ⟨v, .bcdDec, tl, by rw [siteOf_eq_some hs], .inl ⟨.bcdDec, fun _ => ⟨rfl, rfl⟩, h⟩⟩
    next hs => exact ⟨v, .bcdIsZero, tl, by rw [siteOf_eq_some hs], .inl ⟨.bcdIsZero, fun _ => ⟨rfl, rfl⟩, h⟩⟩
    next site _ _ _ hs =>
      refine ⟨v, site, tl, by rw [siteOf_eq_some hs], .inr ?_⟩
      cases hv : decodeVector site v with
      | error e =>
        rw [hv] at h
        cases h
      | ok j =>
        rw [hv] at h
        cases h
        exact ⟨rfl, rfl⟩
  next => cases h

/-- Settles O3: the tag byte gives the site back, and the site's format gives the vector and operand
bytes back. -/
theorem decodedWordIsItsEncoding : Obligations.DecodedWordIsItsEncoding := by
  intro bs rest i htagged hdecode
  obtain ⟨v, site, tl, rfl, ⟨mk, hmk, hbcd⟩ | ⟨hvector, rfl⟩⟩ := decode_eq_ok hdecode
  · exact eq_encode_of_decodeBcd hmk hbcd
  · have hsite : site ≠ .untagged := by
      rintro rfl
      cases htagged
    obtain ⟨hwf, hencode⟩ := encodesAt_of_decodeVector hsite hvector
    exact ⟨hwf, by rw [hencode]; rfl⟩

end Sys2Proof.Machine
end
